-- ==== Sys2Proof/Syntax.lean ====
section
/-! DEFINITION. The commands, one constructor per row of the opcode table (30_encoding.md R64). -/

namespace Sys2Proof

/-- CELL, `cmd[9:8]` (30_encoding.md R62). `reserved` is CELL = 3, which is illegal: `Instr.wf` refuses it. -/
inductive CellSel where
  | arg0
  | lcgCell0
  | lcgCell1
  | reserved
  deriving DecidableEq, Repr

/-- A command. Operands that are not in the command word are taken from ARG0 and ARG1 when the command
executes (R68), so only LCG_NEXT carries a field. -/
inductive Instr where
  /-- OP 0x01, LCG_NEXT (40_lcg.md R81). -/
  | lcgNext (cell : CellSel)
  /-- OP 0x02, MT_SEED_SCALAR (41_mt_seeding.md R91). -/
  | mtSeedScalar
  /-- OP 0x03, MT_SEED_ARRAY (41_mt_seeding.md R93). -/
  | mtSeedArray
  /-- OP 0x04, MT_NEXT (42_mt_generation.md R110). -/
  | mtNext
  /-- OP 0x05, BOOTSTRAP (43_bootstrap.md R131). -/
  | bootstrap
  /-- OP 0x06, MT_WORD_READ (44_state_access.md R141). -/
  | mtWordRead
  /-- OP 0x07, MT_WORD_WRITE (44_state_access.md R142). -/
  | mtWordWrite
  /-- OP 0x08, MT_CURSOR_READ (44_state_access.md R143). -/
  | mtCursorRead
  /-- OP 0x09, MT_CURSOR_WRITE (44_state_access.md R144). -/
  | mtCursorWrite
  /-- OP 0x0A, KEY_WRITE (44_state_access.md R145). -/
  | keyWrite
  /-- OP 0x0B, KEY_READ (44_state_access.md R146). -/
  | keyRead
  deriving DecidableEq, Repr

end Sys2Proof
end

