-- ==== Sys2Proof/WellFormed.lean ====
section
/-! DEFINITION. Which commands the encoding admits (30_encoding.md R62, R65). -/

namespace Sys2Proof

/-- The one check on a command's operands: CELL = 3 is reserved (R62, R65 (d)). -/
def Instr.wf : Instr → Bool
  | .lcgNext .reserved => false
  | .lcgNext .arg0 => true
  | .lcgNext .lcgCell0 => true
  | .lcgNext .lcgCell1 => true
  | .mtSeedScalar => true
  | .mtSeedArray => true
  | .mtNext => true
  | .bootstrap => true
  | .mtWordRead => true
  | .mtWordWrite => true
  | .mtCursorRead => true
  | .mtCursorWrite => true
  | .keyWrite => true
  | .keyRead => true

end Sys2Proof
end

