-- ==== Sys2Proof/Word.lean ====
section
/-! DEFINITION. The machine's word and its plainest arithmetic (00_scope.md R6, R9, R10).

Bit 0 is the least significant bit of a word and bit 31 the most significant. -/

namespace Sys2Proof

/-- A stored or transferred quantity: 32 bits (R6, 20_memory.md R45). -/
abbrev Word := BitVec 32

/-- `u32(e)` of R10: `e mod 2^32`. -/
abbrev u32 (e : Nat) : Word := BitVec.ofNat 32 e

/-- `sint32(v)` of R10: the pattern read as two's complement. -/
abbrev sint32 (v : Word) : Int := v.toInt

end Sys2Proof
end

