-- ==== Sys2Proof/Decode.lean ====
section
/-! DEFINITION. Decoding a command word, and encoding a command (30_encoding.md R60 to R69).

A command is exactly one 32-bit word, whatever the state (R60, R69), so decoding is a function of the word. -/

namespace Sys2Proof

/-- Which check of R65 a command word fails. The block raises ILLEGAL for each (60_exceptions.md R162). -/
inductive DecodeError where
  /-- RSV is not 0 (R63, R65 (c)). -/
  | reservedBits
  /-- OP is 0x00 or above 0x0B (R65 (a), (b)). -/
  | badOpcode
  /-- LCG_NEXT with CELL = 3 (R65 (d)). -/
  | reservedCell
  /-- CELL is not 0 in a command other than LCG_NEXT (R65 (e)). -/
  | strayCell
  deriving DecidableEq, Repr

/-- OP, `cmd[7:0]`, read as an unsigned 8-bit value (R61). -/
def opField (w : Word) : Nat := (w.extractLsb' 0 8).toNat

/-- CELL, `cmd[9:8]` (R62). -/
def cellField (w : Word) : Nat := (w.extractLsb' 8 2).toNat

/-- RSV, `cmd[31:10]` (R63). -/
def rsvField (w : Word) : Nat := (w.extractLsb' 10 22).toNat

/-- The cell that a value of CELL selects (R62). -/
def cellOfField : Nat → CellSel
  | 0 => .arg0
  | 1 => .lcgCell0
  | 2 => .lcgCell1
  | _ => .reserved

/-- The opcode map of R64; no other opcode is in use. -/
def instrOfOp (op : Nat) (cell : CellSel) : Option Instr :=
  match op with
  | 0x01 => some (.lcgNext cell)
  | 0x02 => some .mtSeedScalar
  | 0x03 => some .mtSeedArray
  | 0x04 => some .mtNext
  | 0x05 => some .bootstrap
  | 0x06 => some .mtWordRead
  | 0x07 => some .mtWordWrite
  | 0x08 => some .mtCursorRead
  | 0x09 => some .mtCursorWrite
  | 0x0A => some .keyWrite
  | 0x0B => some .keyRead
  | _ => none

/-- The decoder of R65, its checks in the order given there. It looks at no operand (R67). -/
def decode (cmd : Word) : Except DecodeError Instr :=
  if rsvField cmd ≠ 0 then .error .reservedBits
  else if opField cmd = 0x00 ∨ 0x0C ≤ opField cmd then .error .badOpcode
  else if opField cmd = 0x01 ∧ cellField cmd = 3 then .error .reservedCell
  else if opField cmd ≠ 0x01 ∧ cellField cmd ≠ 0 then .error .strayCell
  else
    match instrOfOp (opField cmd) (cellOfField (cellField cmd)) with
    | some i => .ok i
    | none => .error .badOpcode

/-- The opcode of each command (R64). -/
def Instr.opcode : Instr → Nat
  | .lcgNext _ => 0x01
  | .mtSeedScalar => 0x02
  | .mtSeedArray => 0x03
  | .mtNext => 0x04
  | .bootstrap => 0x05
  | .mtWordRead => 0x06
  | .mtWordWrite => 0x07
  | .mtCursorRead => 0x08
  | .mtCursorWrite => 0x09
  | .keyWrite => 0x0A
  | .keyRead => 0x0B

/-- The value of CELL for each cell (R62). -/
def CellSel.code : CellSel → Nat
  | .arg0 => 0
  | .lcgCell0 => 1
  | .lcgCell1 => 2
  | .reserved => 3

/-- CELL of each command: 0 for every command but LCG_NEXT (R62). -/
def Instr.cellCode : Instr → Nat
  | .lcgNext cell => cell.code
  | .mtSeedScalar => 0
  | .mtSeedArray => 0
  | .mtNext => 0
  | .bootstrap => 0
  | .mtWordRead => 0
  | .mtWordWrite => 0
  | .mtCursorRead => 0
  | .mtCursorWrite => 0
  | .keyWrite => 0
  | .keyRead => 0

/-- The command word: OP in bits 7:0, CELL in bits 9:8, RSV = 0 (R60). -/
def encode (i : Instr) : Word := u32 (i.opcode + 256 * i.cellCode)

/-- The command word that `nbits` bits of the opcode table's numbering stand for, every bit above them 0.
A command word has no byte order (20_memory.md R45): bit k of the table is bit k of the word. -/
def tableWord (nbits w : Nat) : Word := u32 (w % 2 ^ nbits)

/-- What the decoder reads from a word of the opcode table. -/
def decodeTableWord (nbits w : Nat) : Option Instr := (decode (tableWord nbits w)).toOption

end Sys2Proof
end

