-- ==== Sys2Proof/Config.lean ====
section
/-! DEFINITION. What is fixed for the machine (00_scope.md R6, R8).

The constants of the algorithms (R7) stand beside the definitions that use them. The block leaves no value
of an instruction's result open, so there is no free value here. -/

namespace Sys2Proof.Config

/-- KEY_MAX of the machine that `State.reset` describes: the spec's default (R8, D11, U12).
The model reads KEY_MAX as the length of the key buffer in State, so its statements hold for any other
value as well (log 7). -/
def keyMax : Nat := 1024

end Sys2Proof.Config
end

