-- ==== Sys2Proof/Machine/State.lean ====
section
/-! DEFINITION. The state of one instance of the block (10_state.md), of the host's side of its port, and the
reasons a step can stop. -/

namespace Sys2Proof.Machine

/-- The twister's internal vector: exactly 624 words (10_state.md R20). -/
abbrev Words := Vector Word 624

/-- The error codes that the block writes to STATUS.ERR (60_exceptions.md R161). Codes 3..15 are never
written (U9). -/
inductive ErrCode where
  /-- 0: the command completed. -/
  | none
  /-- 1, ILLEGAL: the command word is illegal. -/
  | illegal
  /-- 2, RANGE: an index, length or cursor operand is out of range. -/
  | range
  deriving DecidableEq, Repr

/-- The register port's slots by name (10_state.md R22). -/
inductive PortReg where
  | cmd
  | status
  | arg0
  | arg1
  | result
  | lcgCell0
  | lcgCell1
  | holdrand
  /-- Slots 8..15, which hold no state (R30). -/
  | reserved
  deriving DecidableEq, Repr

/-- What the outside world does to the block, one item per operation of the host's program order. -/
inductive HostOp where
  /-- `wr`: PortWrite of a 4-bit slot index and a whole word (00_scope.md R13, 30_encoding.md R70). -/
  | write (slot : BitVec 4) (value : Word)
  /-- `rd`: PortRead (R13, R70). -/
  | read (slot : BitVec 4)
  /-- `poll`: read STATUS again until BUSY is 0 (R70). -/
  | poll
  /-- The reset input (70_reset_and_hazards.md R180); how it is asserted is outside the spec (R181). -/
  | reset
  deriving DecidableEq, Repr

/-- The host's side of the port. These fields are the model's own (log 3, log 4). -/
structure HostSide where
  /-- The operations the host has still to make, in program order (00_scope.md R15). -/
  ops : List HostOp
  /-- The latency of each command still to be started, in host turns; 0 once the list is used up (U11). -/
  latencies : List Nat
  /-- The values its reads have returned, newest first. -/
  observed : List Word
  deriving DecidableEq, Repr

/-- The ghost bits "defined since reset" of 10_state.md R36 and U1. No command's effect depends on them. -/
structure Ghost where
  words : Vector Bool 624
  /-- One bit for each entry of KEY. -/
  key : List Bool
  arg0 : Bool
  arg1 : Bool
  result : Bool
  lcgCell0 : Bool
  lcgCell1 : Bool
  holdrand : Bool
  /-- A value that is unspecified since reset has been read: U1's model stops at that read, this one goes on
  with the value it holds and keeps this mark (log 2). -/
  unspecifiedRead : Bool
  deriving DecidableEq, Repr

/-- The machine. Every field but `host` and `ghost` is a piece of state that 10_state.md names. -/
structure State where
  /-- `words` (R20). -/
  words : Words
  /-- `cursor`, stored in 10 bits (R21). -/
  cursor : BitVec 10
  /-- KEY (R27). Its length is KEY_MAX (log 7). -/
  key : List Word
  /-- The pending command word, latched by the CMD write and held while STATUS.BUSY = 1 (R23, R31). -/
  pending : Option Word
  /-- Host turns left before the pending command's step (R31 (b), U11; log 4). -/
  delay : Nat
  /-- STATUS.SEEDED (R24). -/
  seeded : Bool
  /-- STATUS.ERR (R24). -/
  err : ErrCode
  /-- Slot 2 (R25). -/
  arg0 : Word
  /-- Slot 3 (R25). -/
  arg1 : Word
  /-- Slot 4 (R26). -/
  result : Word
  /-- Slot 5 (R28). -/
  lcgCell0 : Word
  /-- Slot 6 (R28). -/
  lcgCell1 : Word
  /-- Slot 7 (R29). -/
  holdrand : Word
  host : HostSide
  ghost : Ghost
  deriving DecidableEq, Repr

/-- Why the machine stops. -/
inductive Fault where
  /-- Raised by `portWrite` and `portRead`: a port access other than PortRead(1) while STATUS.BUSY = 1, whose
  result is unspecified (70_reset_and_hazards.md R186; U4 treats it as a fault). Safe: the model stops where
  the hardware goes on. No command raises it. -/
  | busyAccess
  deriving DecidableEq, Repr

/-- Why a command has no meaning. No arm of `exec` and no meaning answers with one. -/
inductive Refusal where
  /-- Raised by an arm of `exec` for a command that is not modelled yet. Safe: the model stops. -/
  | notModelled (mnemonic : String)
  deriving DecidableEq, Repr

/-- STATUS.BUSY: 1 from the CMD write until the command completes, which is as long as the pending command
word is held (R24, R31; log 8). -/
def State.busy (s : State) : Bool := s.pending.isSome

/-- KEY_MAX (R27). -/
def State.keyMax (s : State) : Nat := s.key.length

/-- No value is defined since reset (R36). -/
def Ghost.fresh (keyMax : Nat) : Ghost where
  words := Vector.replicate 624 false
  key := List.replicate keyMax false
  arg0 := false
  arg1 := false
  result := false
  lcgCell0 := false
  lcgCell1 := false
  holdrand := false
  unspecifiedRead := false

/-- The reset state of an instance whose key buffer has `keyMax` words (10_state.md R35, 70_reset_and_hazards.md
R180). DESIGN CHOICE, unsafe: the data that R35 leaves unspecified is 0 (log 1). -/
def State.resetWith (keyMax : Nat) : State where
  words := Vector.replicate 624 0
  cursor := 624
  key := List.replicate keyMax 0
  pending := none
  delay := 0
  seeded := false
  err := .none
  arg0 := 0
  arg1 := 0
  result := 0
  lcgCell0 := 0
  lcgCell1 := 0
  holdrand := 0
  host := { ops := [], latencies := [], observed := [] }
  ghost := Ghost.fresh keyMax

/-- The machine right after reset, with the spec's default KEY_MAX (R35, U12). -/
def State.reset : State := State.resetWith Config.keyMax

end Sys2Proof.Machine
end

