-- ==== Sys2Proof/Machine/Ops.lean ====
section
/-! DEFINITION. The named operations over the state that the commands share.

Every operation that changes the state is one record update, with its lemmas in Laws/State.lean. -/

namespace Sys2Proof.Machine

/-- What a step answers. -/
abbrev Out := Host.Outcome State Fault Refusal

/-! ### The state vector and the key buffer -/

/-- `words[i]` (00_scope.md R11). The index is taken modulo 624, as the twist does (42_mt_generation.md R112);
every other use has `i` in 0..623, where that changes nothing. -/
def wordAt (w : Words) (i : Nat) : Word := w[i % 624]'(Nat.mod_lt i (by decide))

/-- `words[i] <- v` (R11), with the index as in `wordAt`. -/
def setWordAt (w : Words) (i : Nat) (v : Word) : Words := w.set (i % 624) v (Nat.mod_lt i (by decide))

/-- `f` applied `n` times, with the ascending index `i, i + 1, …`: the spec's `for` loops. -/
def forFrom {α : Type} (f : Nat → α → α) : Nat → Nat → α → α
  | 0, _, a => a
  | n + 1, i, a => forFrom f n (i + 1) (f i a)

/-- `KEY[j]` (R11), for `j` below KEY_MAX. -/
def keyAt (key : List Word) (j : Nat) : Word := key.getD j 0

/-! ### Updates of one piece of state, with the ghost bit of what is written -/

/-- A command or port read has read values that are all defined since reset just when `defined` holds
(10_state.md R36, U1; log 2). -/
def State.noteRead (defined : Bool) (s : State) : State :=
  { s with ghost := { s.ghost with unspecifiedRead := s.ghost.unspecifiedRead || !defined } }

/-- `ARG0 <- v`. -/
def State.setArg0 (v : Word) (s : State) : State :=
  { s with arg0 := v, ghost := { s.ghost with arg0 := true } }

/-- `ARG1 <- v`. -/
def State.setArg1 (v : Word) (s : State) : State :=
  { s with arg1 := v, ghost := { s.ghost with arg1 := true } }

/-- `RESULT <- v`. -/
def State.setResult (v : Word) (s : State) : State :=
  { s with result := v, ghost := { s.ghost with result := true } }

/-- `LCG_CELL0 <- v`. -/
def State.setLcgCell0 (v : Word) (s : State) : State :=
  { s with lcgCell0 := v, ghost := { s.ghost with lcgCell0 := true } }

/-- `LCG_CELL1 <- v`. -/
def State.setLcgCell1 (v : Word) (s : State) : State :=
  { s with lcgCell1 := v, ghost := { s.ghost with lcgCell1 := true } }

/-- `HOLDRAND <- v`. -/
def State.setHoldrand (v : Word) (s : State) : State :=
  { s with holdrand := v, ghost := { s.ghost with holdrand := true } }

/-- `words[i] <- v`, for `i` in 0..623. -/
def State.setWord (i : Nat) (v : Word) (s : State) : State :=
  { s with
    words := setWordAt s.words i v
    ghost := { s.ghost with words := s.ghost.words.set (i % 624) true (Nat.mod_lt i (by decide)) } }

/-- `KEY[j] <- v`, for `j` below KEY_MAX. -/
def State.setKey (j : Nat) (v : Word) (s : State) : State :=
  { s with key := s.key.set j v, ghost := { s.ghost with key := s.ghost.key.set j true } }

/-- The whole vector and the cursor written at once, by a seeding pass or by a twist pass. -/
def State.loadTwister (w : Words) (c : BitVec 10) (s : State) : State :=
  { s with words := w, cursor := c, ghost := { s.ghost with words := Vector.replicate 624 true } }

/-- `cursor <- c`. -/
def State.setCursor (c : BitVec 10) (s : State) : State := { s with cursor := c }

/-- `STATUS.SEEDED <- 1` (10_state.md R24: set only). -/
def State.setSeeded (s : State) : State := { s with seeded := true }

/-! ### Completion and errors -/

/-- A command that does not raise completes: ERR <- 0, and BUSY falls (00_scope.md R12). -/
def State.complete (s : State) : State := { s with pending := none, err := .none }

/-- `raise Error(code)`, the block's one form of exception (00_scope.md R12, 60_exceptions.md R160, R165): the
command is abandoned, STATUS.ERR takes the code, BUSY falls, and nothing else changes. There is no return
from it: no state is saved and no control is transferred (R160, R167). -/
def State.raiseError (code : ErrCode) (s : State) : State := { s with pending := none, err := code }

/-- What an illegal command word does (30_encoding.md R65, 60_exceptions.md R162). -/
def State.illegalCommand (s : State) : State := s.raiseError .illegal

/-! ### The CMD latch and reset -/

/-- PortWrite(0, v) while BUSY = 0: the word is latched and BUSY rises (10_state.md R23). How many host turns
pass before the command's step is the next of the host side's latencies (U11; log 4). -/
def State.latchCommand (v : Word) (s : State) : State :=
  { s with
    pending := some v
    delay := s.host.latencies.headD 0
    host := { s.host with latencies := s.host.latencies.tail } }

/-- The command word whose step comes now, if there is one. -/
def State.readyCommand (s : State) : Option Word := if s.delay = 0 then s.pending else none

/-- The block's part of the state at reset; a pending command is dropped with none of its effects made
(70_reset_and_hazards.md R180). What the host has observed and has still to do is not the block's, nor is
the mark of an earlier unspecified read (log 6). -/
def State.resetBlock (s : State) : State :=
  { State.resetWith s.keyMax with
    host := s.host
    ghost := { Ghost.fresh s.keyMax with unspecifiedRead := s.ghost.unspecifiedRead } }

end Sys2Proof.Machine
end

