-- ==== Sys2Proof/Machine/Operands.lean ====
section
/-! DEFINITION. The operand forms: the LCG's seed cells, the index operands and their bounds, the key prefix,
and which of them are defined since reset. -/

namespace Sys2Proof.Machine

/-! ### Seed cells (30_encoding.md R62, 40_lcg.md R81) -/

/-- The seed cell that CELL selects. CELL = 3 selects none: LCG_NEXT raises ILLEGAL before it reads a cell. -/
def State.cell (c : CellSel) (s : State) : Word :=
  match c with
  | .arg0 => s.arg0
  | .lcgCell0 => s.lcgCell0
  | .lcgCell1 => s.lcgCell1
  | .reserved => 0

/-- `C <- r`: the new seed goes back to the cell it was read from (R25, R81). -/
def State.setCell (c : CellSel) (r : Word) (s : State) : State :=
  match c with
  | .arg0 => s.setArg0 r
  | .lcgCell0 => s.setLcgCell0 r
  | .lcgCell1 => s.setLcgCell1 r
  | .reserved => s

/-- The selected cell is defined since reset. -/
def State.cellDefined (c : CellSel) (s : State) : Bool :=
  match c with
  | .arg0 => s.ghost.arg0
  | .lcgCell0 => s.ghost.lcgCell0
  | .lcgCell1 => s.ghost.lcgCell1
  | .reserved => true

/-! ### Index, length and cursor operands

All 32 bits of ARG0 are compared with the bound, as unsigned (30_encoding.md R68, 44_state_access.md R140). -/

/-- ARG0 as an index, length, cursor or time operand. -/
abbrev State.operand (s : State) : Nat := s.arg0.toNat

/-- ARG0 is an index of `words`: at most 623 (R140). -/
def State.wordIndexOk (s : State) : Bool := s.operand ≤ 623

/-- ARG0 is a value the cursor may take: at most 624 (R144). -/
def State.cursorOk (s : State) : Bool := s.operand ≤ 624

/-- ARG0 is an index of KEY: at most KEY_MAX - 1 (R140). -/
def State.keyIndexOk (s : State) : Bool := s.operand < s.keyMax

/-- ARG0 is a key length: at most KEY_MAX (41_mt_seeding.md R93). -/
def State.keyLengthOk (s : State) : Bool := s.operand ≤ s.keyMax

/-! ### What is defined since reset (10_state.md R36) -/

/-- Element `i` of `words` is defined. -/
def State.wordDefined (i : Nat) (s : State) : Bool := s.ghost.words[i % 624]'(Nat.mod_lt i (by decide))

/-- Every element of `words` is defined. -/
def State.allWordsDefined (s : State) : Bool := s.ghost.words.toList.all id

/-- KEY[j] is defined. -/
def State.keyDefined (j : Nat) (s : State) : Bool := s.ghost.key.getD j false

/-- KEY[0..L-1] are defined (70_reset_and_hazards.md R184). -/
def State.keyPrefixDefined (L : Nat) (s : State) : Bool := (List.range L).all fun j => s.keyDefined j

end Sys2Proof.Machine
end

