-- ==== Sys2Proof/Machine/Access.lean ====
section
/-! DEFINITION. The state-access commands (44_state_access.md). Each checks its index before it writes (R140). -/

namespace Sys2Proof.Machine

/-- MT_WORD_READ (R141). -/
def execMtWordRead (s : State) : Out :=
  if s.wordIndexOk then
    .next ((s.noteRead (s.ghost.arg0 && s.wordDefined s.operand)).setResult (wordAt s.words s.operand) |>.complete)
  else .next ((s.noteRead s.ghost.arg0).raiseError .range)

/-- MT_WORD_WRITE (R142). -/
def execMtWordWrite (s : State) : Out :=
  if s.wordIndexOk then
    .next ((s.noteRead (s.ghost.arg0 && s.ghost.arg1)).setWord s.operand s.arg1 |>.complete)
  else .next ((s.noteRead s.ghost.arg0).raiseError .range)

/-- MT_CURSOR_READ (R143). -/
def execMtCursorRead (s : State) : Out := .next (s.setResult (s.cursor.setWidth 32) |>.complete)

/-- MT_CURSOR_WRITE (R144). -/
def execMtCursorWrite (s : State) : Out :=
  if s.cursorOk then
    .next ((s.noteRead s.ghost.arg0).setCursor (s.arg0.extractLsb' 0 10) |>.setSeeded |>.complete)
  else .next ((s.noteRead s.ghost.arg0).raiseError .range)

/-- KEY_WRITE (R145). -/
def execKeyWrite (s : State) : Out :=
  if s.keyIndexOk then
    .next ((s.noteRead (s.ghost.arg0 && s.ghost.arg1)).setKey s.operand s.arg1 |>.complete)
  else .next ((s.noteRead s.ghost.arg0).raiseError .range)

/-- KEY_READ (R146). -/
def execKeyRead (s : State) : Out :=
  if s.keyIndexOk then
    .next ((s.noteRead (s.ghost.arg0 && s.keyDefined s.operand)).setResult (keyAt s.key s.operand) |>.complete)
  else .next ((s.noteRead s.ghost.arg0).raiseError .range)

end Sys2Proof.Machine
end

