-- ==== Sys2Proof/Machine/Seeding.lean ====
section
/-! DEFINITION. Seeding the twister: MT_SEED_SCALAR and MT_SEED_ARRAY (41_mt_seeding.md).

All arithmetic is modulo 2^32. Both passes write the vector in place, and each step reads what the step before
wrote. -/

namespace Sys2Proof.Machine

/-- `x ^ (x >> 30)`, of R90 and R92. -/
def mix30 (x : Word) : Word := x ^^^ (x >>> 30)

/-! ### Scalar seeding -/

/-- One step of R90's loop, for `i` in 1..623. -/
def seedScalarStep (i : Nat) (w : Words) : Words :=
  setWordAt w i (1812433253#32 * mix30 (wordAt w (i - 1)) + u32 i)

/-- `seed_scalar(v)` of R90, on the vector `w`. -/
@[irreducible] def seedScalar (v : Word) (w : Words) : Words := forFrom seedScalarStep 623 1 (setWordAt w 0 v)

/-- MT_SEED_SCALAR (R91). -/
def execMtSeedScalar (s : State) : Out :=
  .next ((s.noteRead s.ghost.arg0).loadTwister (seedScalar s.arg0 s.words) 624#10 |>.setSeeded |>.complete)

/-! ### Array seeding -/

/-- Where a seeding pass stands: the vector, the twister index and the key index (R92; 10_state.md R31 (b)). -/
structure SeedPass where
  words : Words
  i : Nat
  j : Nat
  deriving DecidableEq, Repr

/-- Advancing the twister index: on reaching 624, `words[623]` is first copied into `words[0]`, and the index
goes back to 1 (R92, R94). -/
def SeedPass.advance (p : SeedPass) : SeedPass :=
  if 624 ≤ p.i + 1 then { p with words := setWordAt p.words 0 (wordAt p.words 623), i := 1 }
  else { p with i := p.i + 1 }

/-- Advancing the key index, which goes back to 0 after the key's last word (R92). -/
def SeedPass.advanceKey (L : Nat) (p : SeedPass) : SeedPass :=
  if L ≤ p.j + 1 then { p with j := 0 } else { p with j := p.j + 1 }

/-- One step of pass 1 (R92). -/
def seedPass1Step (key : List Word) (L : Nat) (p : SeedPass) : SeedPass :=
  let v := (wordAt p.words p.i ^^^ (mix30 (wordAt p.words (p.i - 1)) * 1664525#32)) + keyAt key p.j + u32 p.j
  ({ p with words := setWordAt p.words p.i v }).advance.advanceKey L

/-- One step of pass 2 (R92); the key index plays no part (R95). -/
def seedPass2Step (p : SeedPass) : SeedPass :=
  let v := (wordAt p.words p.i ^^^ (mix30 (wordAt p.words (p.i - 1)) * 1566083941#32)) - u32 p.i
  ({ p with words := setWordAt p.words p.i v }).advance

/-- `seed_array(L)` of R92, for `L` at least 1. Pass 2 goes on from the index that pass 1 left (R95). -/
@[irreducible] def seedArray (key : List Word) (L : Nat) (w : Words) : Words :=
  let start : SeedPass := { words := seedScalar 19650218#32 w, i := 1, j := 0 }
  let afterPass1 := (seedPass1Step key L)^[max 624 L] start
  let afterPass2 := seedPass2Step^[623] afterPass1
  setWordAt afterPass2.words 0 0x80000000#32

/-- The vector that MT_SEED_ARRAY leaves for a key of length `L`: an empty key seeds as `seed_scalar(0)` and
reads no entry of KEY (R93, R96). -/
def seedFromKey (key : List Word) (L : Nat) (w : Words) : Words :=
  if L = 0 then seedScalar 0 w else seedArray key L w

/-- MT_SEED_ARRAY (R93): RANGE when the length exceeds KEY_MAX. -/
def execMtSeedArray (s : State) : Out :=
  if s.keyLengthOk then
    .next ((s.noteRead (s.ghost.arg0 && s.keyPrefixDefined s.operand)).loadTwister
      (seedFromKey s.key s.operand s.words) 624#10 |>.setSeeded |>.complete)
  else .next ((s.noteRead s.ghost.arg0).raiseError .range)

end Sys2Proof.Machine
end

