-- ==== Sys2Proof/Machine/Bootstrap.lean ====
section
/-! DEFINITION. The time fold and BOOTSTRAP (43_bootstrap.md). -/

namespace Sys2Proof.Machine

/-- The loop of R130, at most `n` times. -/
def foldTimeLoop : Nat → Nat → Nat
  | 0, u => u
  | n + 1, u => if 0x7FFFFFFE ≤ u then foldTimeLoop n (u - 0x7FFFFFFE) else u

/-- `fold_time(t)` of R130. The loop runs 0, 1 or 2 times on a 32-bit value. -/
def foldTime (t : Word) : Word := u32 (foldTimeLoop 2 t.toNat + 1)

/-- BOOTSTRAP (R131). Nothing keeps it from being run again (R133). -/
def execBootstrap (s : State) : Out :=
  .next ((s.noteRead s.ghost.arg0).setLcgCell0 15937#32 |>.setLcgCell1 (foldTime s.arg0)
    |>.loadTwister (seedScalar 5489#32 s.words) 624#10 |>.setHoldrand 2345678#32 |>.setSeeded |>.complete)

end Sys2Proof.Machine
end

