-- ==== Sys2Proof/Machine/Generation.lean ====
section
/-! DEFINITION. The twist-update pass, tempering, and MT_NEXT (42_mt_generation.md). -/

namespace Sys2Proof.Machine

/-- `y` of R112: the high bit of one word over the low 31 bits of the next. -/
def twistJoin (a b : Word) : Word := (a &&& 0x80000000#32) ||| (b &&& 0x7FFFFFFF#32)

/-- `(y >> 1) ^ (MATRIX_A if y's low bit is 1 else 0)`, of R112. -/
def twistShift (y : Word) : Word := (y >>> 1) ^^^ (if y.getLsbD 0 then 0x9908B0DF#32 else 0#32)

/-- One iteration of R112's loop. `wordAt` takes the indices modulo 624. -/
def twistStep (i : Nat) (w : Words) : Words :=
  setWordAt w i (wordAt w (i + 397) ^^^ twistShift (twistJoin (wordAt w i) (wordAt w (i + 1))))

/-- `twist()` of R112: in place, in ascending order, each read seeing the writes already made (D22). -/
@[irreducible] def twist (w : Words) : Words := forFrom twistStep 624 0 w

/-- `temper(y)` of R113. -/
def temper (y : Word) : Word :=
  let y := y ^^^ (y >>> 11)
  let y := y ^^^ ((y <<< 7) &&& 0x9D2C5680#32)
  let y := y ^^^ ((y <<< 15) &&& 0xEFC60000#32)
  y ^^^ (y >>> 18)

/-- The first part of R110: an exhausted vector is regenerated and the cursor set to 0. -/
def State.regenerate (s : State) : State :=
  if 624 ≤ s.cursor.toNat then (s.noteRead s.allWordsDefined).loadTwister (twist s.words) 0#10 else s

/-- The second part of R110: the word at the cursor, tempered, is the result, and the cursor moves on. -/
def State.draw (s : State) : State :=
  ((s.noteRead (s.wordDefined s.cursor.toNat)).setResult (temper (wordAt s.words s.cursor.toNat))).setCursor
    (s.cursor + 1#10)

/-- MT_NEXT (R110). It looks at neither SEEDED (R114) nor an all-zero vector (R115). -/
def execMtNext (s : State) : Out := .next s.regenerate.draw.complete

end Sys2Proof.Machine
end

