-- ==== Sys2Proof/Machine/Lcg.lean ====
section
/-! DEFINITION. The 31-bit LCG and LCG_NEXT (40_lcg.md). -/

namespace Sys2Proof.Machine

/-- `lcg31(s)` of R80: the signed 64-bit product, its low 31 bits plus the next 32, and at most one
correction under an unsigned compare (D7). -/
def lcg31 (s : Word) : Word :=
  let T : BitVec 64 := BitVec.ofInt 64 (sint32 s * 742938285)
  let lo : BitVec 31 := T.extractLsb' 0 31
  let hi : BitVec 32 := T.extractLsb' 31 32
  let r : Word := lo.setWidth 32 + hi
  if 0x7FFFFFFF ≤ r.toNat then r - 0x7FFFFFFF#32 else r

/-- LCG_NEXT (R81). CELL = 3 is illegal and raises ILLEGAL before anything is read (30_encoding.md R62, R67). -/
def execLcgNext (cell : CellSel) (s : State) : Out :=
  if cell = .reserved then .next s.illegalCommand
  else
    let r := lcg31 (s.cell cell)
    .next ((s.noteRead (s.cellDefined cell)).setCell cell r |>.setResult r |>.complete)

end Sys2Proof.Machine
end

