-- ==== Sys2Proof/Machine/Dispatch.lean ====
section
/-! DEFINITION. One arm per command (30_encoding.md R64). -/

namespace Sys2Proof.Machine

def exec (i : Instr) (s : State) : Host.Outcome State Fault Refusal :=
  match i with
  | .lcgNext cell => Sys2Proof.Machine.execLcgNext cell s
  | .mtSeedScalar => Sys2Proof.Machine.execMtSeedScalar s
  | .mtSeedArray => Sys2Proof.Machine.execMtSeedArray s
  | .mtNext => Sys2Proof.Machine.execMtNext s
  | .bootstrap => Sys2Proof.Machine.execBootstrap s
  | .mtWordRead => Sys2Proof.Machine.execMtWordRead s
  | .mtWordWrite => Sys2Proof.Machine.execMtWordWrite s
  | .mtCursorRead => Sys2Proof.Machine.execMtCursorRead s
  | .mtCursorWrite => Sys2Proof.Machine.execMtCursorWrite s
  | .keyWrite => Sys2Proof.Machine.execKeyWrite s
  | .keyRead => Sys2Proof.Machine.execKeyRead s

end Sys2Proof.Machine
end

