-- ==== Sys2Proof/Machine/Flags.lean ====
section
/-! DEFINITION. STATUS, the block's only flags (10_state.md R24, R32). -/

namespace Sys2Proof.Machine

/-- The number of an error code (60_exceptions.md R161). -/
def ErrCode.code : ErrCode → Nat
  | .none => 0
  | .illegal => 1
  | .range => 2

/-- STATUS as a port read sees it: BUSY in bit 0, SEEDED in bit 1, ERR in bits 7:4, every reserved bit 0 (R24). -/
def State.statusWord (s : State) : Word := u32 (s.busy.toNat + 2 * s.seeded.toNat + 16 * s.err.code)

end Sys2Proof.Machine
end

