-- ==== Sys2Proof/Machine/Port.lean ====
section
/-! DEFINITION. The register port and the host's turn at it (10_state.md R22 to R30, 20_memory.md R48, R50,
30_encoding.md R70, 70_reset_and_hazards.md R186). -/

namespace Sys2Proof.Machine

/-- The slot map of R22. -/
def portReg (slot : BitVec 4) : PortReg :=
  match slot.toNat with
  | 0 => .cmd
  | 1 => .status
  | 2 => .arg0
  | 3 => .arg1
  | 4 => .result
  | 5 => .lcgCell0
  | 6 => .lcgCell1
  | 7 => .holdrand
  | _ => .reserved

/-- What a read of a slot returns. CMD and the reserved slots read as 0 (R23, R30). -/
def State.regValue (r : PortReg) (s : State) : Word :=
  match r with
  | .cmd => 0
  | .status => s.statusWord
  | .arg0 => s.arg0
  | .arg1 => s.arg1
  | .result => s.result
  | .lcgCell0 => s.lcgCell0
  | .lcgCell1 => s.lcgCell1
  | .holdrand => s.holdrand
  | .reserved => 0

/-- Whether what a read of a slot returns is defined since reset (R36). -/
def State.regDefined (r : PortReg) (s : State) : Bool :=
  match r with
  | .cmd => true
  | .status => true
  | .arg0 => s.ghost.arg0
  | .arg1 => s.ghost.arg1
  | .result => s.ghost.result
  | .lcgCell0 => s.ghost.lcgCell0
  | .lcgCell1 => s.ghost.lcgCell1
  | .holdrand => s.ghost.holdrand
  | .reserved => true

/-- What a write to a slot does while the block is idle: STATUS, RESULT and the reserved slots ignore it (R22,
R24, R30), and a write to CMD starts a command (R23). -/
def State.writeReg (r : PortReg) (v : Word) (s : State) : State :=
  match r with
  | .cmd => s.latchCommand v
  | .status => s
  | .arg0 => s.setArg0 v
  | .arg1 => s.setArg1 v
  | .result => s
  | .lcgCell0 => s.setLcgCell0 v
  | .lcgCell1 => s.setLcgCell1 v
  | .holdrand => s.setHoldrand v
  | .reserved => s

/-- A value that a read returned to the host. -/
def State.observe (v : Word) (s : State) : State :=
  { s with host := { s.host with observed := v :: s.host.observed } }

/-- PortWrite (00_scope.md R13). While BUSY = 1 no slot may be written (R186, U4). -/
def portWrite (slot : BitVec 4) (v : Word) (s : State) : Out :=
  if s.busy then .fault .busyAccess else .next (s.writeReg (portReg slot) v)

/-- PortRead (R13): no effect on the block (R48). While BUSY = 1 only STATUS may be read (R186, U4). -/
def portRead (slot : BitVec 4) (s : State) : Out :=
  if s.busy && portReg slot != .status then .fault .busyAccess
  else .next ((s.noteRead (s.regDefined (portReg slot))).observe (s.regValue (portReg slot)))

/-- Put an operation at the front of what the host has still to do. -/
def State.pushOp (op : HostOp) (s : State) : State := { s with host := { s.host with ops := op :: s.host.ops } }

/-- One read of STATUS by `poll`, which stays the host's next operation while BUSY reads 1 (R70). -/
def pollOnce (s : State) : State :=
  if s.busy then (s.observe s.statusWord).pushOp .poll else s.observe s.statusWord

/-- One operation of the host. -/
def hostAct (op : HostOp) (s : State) : Out :=
  match op with
  | .write slot v => portWrite slot v s
  | .read slot => portRead slot s
  | .poll => .next (pollOnce s)
  | .reset => .next s.resetBlock

/-- What the host has still to do after its next operation. -/
def State.dropOp (s : State) : State := { s with host := { s.host with ops := s.host.ops.tail } }

/-- The host's turn: its next operation, or nothing when it has none; an idle block then stays as it is
(20_memory.md R50: the state changes only at port writes and at completions). -/
def hostTurn (s : State) : Out :=
  match s.host.ops with
  | [] => .next s
  | op :: _ => hostAct op s.dropOp

/-- A host turn passes while the command is under way. -/
def State.passTurn (s : State) : State := { s with delay := s.delay - 1 }

end Sys2Proof.Machine
end

