-- ==== Sys2Proof/Machine/Step.lean ====
section
/-! DEFINITION. One step of the machine: the block's step when its pending command is due, else the host's turn
(00_scope.md R15, 20_memory.md R47, R50). -/

namespace Sys2Proof.Machine

/-- The command word is decoded, and the command executed or ILLEGAL raised (30_encoding.md R65, R67). -/
def runCommand (w : Word) (s : State) : Host.Outcome State Fault Refusal :=
  match decode w with
  | .ok i => exec i s
  | .error _ => .next s.illegalCommand

/-- One step. While a command is pending and not yet due, a host turn passes (U11; log 4). -/
def step (s : State) : Host.Outcome State Fault Refusal :=
  match s.readyCommand with
  | some w => runCommand w s
  | none => hostTurn s.passTurn

/-- The state in which the very next step runs the command word `w`: the word is in the CMD latch and due (log 3). -/
def State.withFetchWord (s : State) (nbits w : Nat) : State := { s with pending := some (tableWord nbits w), delay := 0 }

end Sys2Proof.Machine
end

