-- ==== Sys2Proof/Machine/Assembler.lean ====
section
/-! DEFINITION. The written form of host programs (30_encoding.md R70 to R72): the pseudo-instructions with their
expansions, and the assembler that reads lines of text. -/

namespace Sys2Proof.Machine

/-! ### Pseudo-instructions -/

/-- The pseudo-instructions of R71. -/
inductive Pseudo where
  /-- `lcg.next arg, v` -/
  | lcgNextArg (v : Word)
  /-- `lcg.next arg`, with ARG0 already holding the cell -/
  | lcgNextArgHeld
  /-- `lcg.next c0` -/
  | lcgNextC0
  /-- `lcg.next c1` -/
  | lcgNextC1
  /-- `mt.seed v` -/
  | mtSeed (v : Word)
  /-- `mt.seed.array L` -/
  | mtSeedArray (L : Word)
  /-- `mt.next` -/
  | mtNext
  /-- `boot t` -/
  | boot (t : Word)
  /-- `mt.word.rd i` -/
  | mtWordRd (i : Word)
  /-- `mt.word.wr i, v` -/
  | mtWordWr (i v : Word)
  /-- `mt.cur.rd` -/
  | mtCurRd
  /-- `mt.cur.wr c` -/
  | mtCurWr (c : Word)
  /-- `key.wr j, v` -/
  | keyWr (j v : Word)
  /-- `key.rd j` -/
  | keyRd (j : Word)
  /-- `key.load k0, k1, …, kn` -/
  | keyLoad (ks : List Word)
  /-- `chk` -/
  | chk
  deriving DecidableEq, Repr

/-- `wr CMD, word` ; `poll` -/
def runAndPoll (word : Word) : List HostOp := [.write 0 word, .poll]

/-- `wr ARG0, j` ; `wr ARG1, v` ; `wr CMD, 0x0000000A` ; `poll` -/
def keyWrOps (j v : Word) : List HostOp := [.write 2 j, .write 3 v] ++ runAndPoll 0x0000000A#32

/-- `key.load` from key index `j` on. -/
def keyLoadOps : Nat → List Word → List HostOp
  | _, [] => []
  | j, k :: ks => keyWrOps (u32 j) k ++ keyLoadOps (j + 1) ks

/-- The exact expansions of R71. -/
def Pseudo.expand : Pseudo → List HostOp
  | .lcgNextArg v => [.write 2 v] ++ runAndPoll 0x00000001#32 ++ [.read 4]
  | .lcgNextArgHeld => runAndPoll 0x00000001#32 ++ [.read 4]
  | .lcgNextC0 => runAndPoll 0x00000101#32 ++ [.read 4]
  | .lcgNextC1 => runAndPoll 0x00000201#32 ++ [.read 4]
  | .mtSeed v => [.write 2 v] ++ runAndPoll 0x00000002#32
  | .mtSeedArray L => [.write 2 L] ++ runAndPoll 0x00000003#32
  | .mtNext => runAndPoll 0x00000004#32 ++ [.read 4]
  | .boot t => [.write 2 t] ++ runAndPoll 0x00000005#32
  | .mtWordRd i => [.write 2 i] ++ runAndPoll 0x00000006#32 ++ [.read 4]
  | .mtWordWr i v => [.write 2 i, .write 3 v] ++ runAndPoll 0x00000007#32
  | .mtCurRd => runAndPoll 0x00000008#32 ++ [.read 4]
  | .mtCurWr c => [.write 2 c] ++ runAndPoll 0x00000009#32
  | .keyWr j v => keyWrOps j v
  | .keyRd j => [.write 2 j] ++ runAndPoll 0x0000000B#32 ++ [.read 4]
  | .keyLoad ks => keyLoadOps 0 ks
  | .chk => [.read 1]

/-! ### Reading text -/

/-- What separates a line's name from its operands. -/
def isBlank (c : Char) : Bool := c == ' ' || c == '\t'

/-- A line without the blanks around it. -/
def trimBlanks (l : List Char) : List Char := ((l.dropWhile isBlank).reverse.dropWhile isBlank).reverse

/-- The operands of a line, which commas separate. -/
def splitCommas : List Char → List (List Char)
  | [] => [[]]
  | c :: cs =>
    if c == ',' then [] :: splitCommas cs
    else
      match splitCommas cs with
      | [] => [[c]]
      | w :: ws => (c :: w) :: ws

/-- The value of a digit, in any base up to 16. -/
def digitValue (c : Char) : Option Nat :=
  if '0' ≤ c ∧ c ≤ '9' then some (c.toNat - '0'.toNat)
  else if 'a' ≤ c ∧ c ≤ 'f' then some (c.toNat - 'a'.toNat + 10)
  else if 'A' ≤ c ∧ c ≤ 'F' then some (c.toNat - 'A'.toNat + 10)
  else none

/-- The digits `l` in base `base`, after the value `n` so far. -/
def digitsFrom (base : Nat) : Nat → List Char → Option Nat
  | n, [] => some n
  | n, c :: cs =>
    match digitValue c with
    | some d => if d < base then digitsFrom base (base * n + d) cs else none
    | none => none

/-- A number that fits in 32 bits (R70, R72). -/
def fitWord (n : Nat) : Option Word := if n < 2 ^ 32 then some (u32 n) else none

/-- A decimal or `0x` hexadecimal unsigned 32-bit number (R70). -/
def parseWord (l : List Char) : Option Word :=
  match l with
  | [] => none
  | ['0', 'x'] => none
  | '0' :: 'x' :: ds => (digitsFrom 16 0 ds).bind fitWord
  | ds => (digitsFrom 10 0 ds).bind fitWord

/-- The register names: the slot names of 10_state.md R22, and `r0`..`r15` (R70). -/
def regNames : List (String × BitVec 4) :=
  [("CMD", 0), ("STATUS", 1), ("ARG0", 2), ("ARG1", 3), ("RESULT", 4), ("LCG_CELL0", 5), ("LCG_CELL1", 6),
    ("HOLDRAND", 7), ("r0", 0), ("r1", 1), ("r2", 2), ("r3", 3), ("r4", 4), ("r5", 5), ("r6", 6), ("r7", 7),
    ("r8", 8), ("r9", 9), ("r10", 10), ("r11", 11), ("r12", 12), ("r13", 13), ("r14", 14), ("r15", 15)]

/-- The slot that a register name stands for. -/
def parseReg (l : List Char) : Option (BitVec 4) := regNames.lookup (String.ofList l)

/-- Every word of a list, or nothing when one of them does not parse. -/
def parseWords : List (List Char) → Option (List Word)
  | [] => some []
  | l :: ls => (parseWord l).bind fun w => (parseWords ls).map (w :: ·)

/-- The three base operations of R70 and the pseudo-instructions of R71, from a line's name and operands. -/
def parseOp (name : String) (args : List (List Char)) : Option (List HostOp) :=
  match name, args with
  | "wr", [r, v] => (parseReg r).bind fun slot => (parseWord v).map fun w => [.write slot w]
  | "rd", [r] => (parseReg r).map fun slot => [.read slot]
  | "poll", [] => some [.poll]
  | "lcg.next", [a, v] =>
    if String.ofList a = "arg" then (parseWord v).map fun w => (Pseudo.lcgNextArg w).expand else none
  | "lcg.next", [a] =>
    if String.ofList a = "arg" then some Pseudo.lcgNextArgHeld.expand
    else if String.ofList a = "c0" then some Pseudo.lcgNextC0.expand
    else if String.ofList a = "c1" then some Pseudo.lcgNextC1.expand
    else none
  | "mt.seed", [v] => (parseWord v).map fun w => (Pseudo.mtSeed w).expand
  | "mt.seed.array", [L] => (parseWord L).map fun w => (Pseudo.mtSeedArray w).expand
  | "mt.next", [] => some Pseudo.mtNext.expand
  | "boot", [t] => (parseWord t).map fun w => (Pseudo.boot w).expand
  | "mt.word.rd", [i] => (parseWord i).map fun w => (Pseudo.mtWordRd w).expand
  | "mt.word.wr", [i, v] => (parseWord i).bind fun w => (parseWord v).map fun x => (Pseudo.mtWordWr w x).expand
  | "mt.cur.rd", [] => some Pseudo.mtCurRd.expand
  | "mt.cur.wr", [c] => (parseWord c).map fun w => (Pseudo.mtCurWr w).expand
  | "key.wr", [j, v] => (parseWord j).bind fun w => (parseWord v).map fun x => (Pseudo.keyWr w x).expand
  | "key.rd", [j] => (parseWord j).map fun w => (Pseudo.keyRd w).expand
  | "key.load", k :: ks => (parseWords (k :: ks)).map fun ws => (Pseudo.keyLoad ws).expand
  | "chk", [] => some Pseudo.chk.expand
  | _, _ => none

/-- One line: a comment runs from `;` to the end of the line, the name comes first, and commas separate the
operands. Anything else is no program line (R70, R72; log 9). -/
def assembleLine (line : List Char) : Option (List HostOp) :=
  let text := trimBlanks (line.takeWhile (· != ';'))
  let name := text.takeWhile (! isBlank ·)
  let rest := trimBlanks (text.dropWhile (! isBlank ·))
  parseOp (String.ofList name) (if rest.isEmpty then [] else (splitCommas rest).map trimBlanks)

/-- The lines from number `n` on; the number of the first line that is no program line is the error (R72; log 11). -/
def assembleFrom : Nat → List (List Char) → Except Nat (List HostOp)
  | _, [] => .ok []
  | n, l :: ls =>
    match assembleLine l with
    | none => .error n
    | some ops =>
      match assembleFrom (n + 1) ls with
      | .ok more => .ok (ops ++ more)
      | .error m => .error m

/-- A whole program, its lines numbered from 1 (R70, R72; log 11). -/
def assemble (program : List (List Char)) : Except Nat (List HostOp) := assembleFrom 1 program

end Sys2Proof.Machine
end

