-- ==== Sys2Proof/Safety.lean ====
section
/-! DEFINITION. The terms in which claims about the machine are made: its invariant, the places a frame speaks of,
what the seeding and twist passes leave, the polling discipline, and runs that read no unspecified value. -/

namespace Sys2Proof.Machine

/-! ### The invariant -/

/-- What every state of the machine satisfies: the cursor is in 0..624 (10_state.md R21), KEY_MAX is at least 1
(00_scope.md R8), each KEY entry has its ghost bit (U1), and nothing is under way without a pending command. -/
abbrev State.Inv (s : State) : Prop :=
  s.cursor.toNat ≤ 624 ∧ 1 ≤ s.keyMax ∧ s.ghost.key.length = s.keyMax ∧ (s.pending = none → s.delay = 0)

/-! ### Frames -/

/-- A place that holds state the host can inspect, by the port or by a state-access command. -/
inductive Place where
  | word (i : Fin 624)
  | cursor
  | key (j : Nat)
  | seeded
  | err
  | busy
  | arg0
  | arg1
  | result
  | lcgCell0
  | lcgCell1
  | holdrand
  deriving DecidableEq, Repr

/-- What a place holds. -/
def State.peek (p : Place) (s : State) : Nat :=
  match p with
  | .word i => (wordAt s.words i).toNat
  | .cursor => s.cursor.toNat
  | .key j => (keyAt s.key j).toNat
  | .seeded => s.seeded.toNat
  | .err => s.err.code
  | .busy => s.busy.toNat
  | .arg0 => s.arg0.toNat
  | .arg1 => s.arg1.toNat
  | .result => s.result.toNat
  | .lcgCell0 => s.lcgCell0.toNat
  | .lcgCell1 => s.lcgCell1.toNat
  | .holdrand => s.holdrand.toNat

/-- Nothing differs between two states but the places in `changed`: every other place holds the same, KEY_MAX is
the same, and so is the host's side. -/
def SameOutside (changed : Place → Prop) (s t : State) : Prop :=
  (∀ p, ¬ changed p → t.peek p = s.peek p) ∧ t.keyMax = s.keyMax ∧ t.delay = s.delay ∧ t.host = s.host

/-- The place is an element of `words`. -/
def Place.isWord : Place → Prop
  | .word _ => True
  | _ => False

/-- The seed cell that CELL selects, as a place; CELL = 3 selects none. -/
def cellPlace : CellSel → Option Place
  | .arg0 => some .arg0
  | .lcgCell0 => some .lcgCell0
  | .lcgCell1 => some .lcgCell1
  | .reserved => none

/-! ### What the passes over the vector leave, said without their loops -/

/-- The vector that `seed_scalar(v)` leaves (41_mt_seeding.md R90). -/
def IsScalarSeed (v : Word) (w : Words) : Prop :=
  wordAt w 0 = v ∧ ∀ i, 1 ≤ i → i ≤ 623 →
    wordAt w i = 1812433253#32 * (wordAt w (i - 1) ^^^ (wordAt w (i - 1) >>> 30)) + u32 i

/-- One seeding step at position `i` with the new value `x`: element `i` takes it, element 0 takes it too when `i`
is 623, since the wrap copies `words[623]` into `words[0]` (41_mt_seeding.md R94), and no other element changes. -/
def IsSeedStep (i : Nat) (x : Word) (w w' : Words) : Prop :=
  ∀ k, k < 624 → wordAt w' k = if k = i ∨ (k = 0 ∧ i = 623) then x else wordAt w k

/-- The vector that `seed_array(L)` leaves for a key of length `L`, at least 1 (R92): pass 1 is the sequence
`v`, whose step `n` works at `i = 1 + n mod 623` with key index `n mod L` (R97); pass 2 is the sequence `u`, which
goes on from there (R95). -/
def IsArraySeed (key : List Word) (L : Nat) (w : Words) : Prop :=
  ∃ v u : Nat → Words,
    IsScalarSeed 19650218#32 (v 0)
    ∧ (∀ n, n < max 624 L →
        let i := 1 + n % 623
        let j := n % L
        IsSeedStep i
          ((wordAt (v n) i ^^^ ((wordAt (v n) (i - 1) ^^^ (wordAt (v n) (i - 1) >>> 30)) * 1664525#32))
            + keyAt key j + u32 j) (v n) (v (n + 1)))
    ∧ u 0 = v (max 624 L)
    ∧ (∀ n, n < 623 →
        let i := 1 + (max 624 L + n) % 623
        IsSeedStep i
          ((wordAt (u n) i ^^^ ((wordAt (u n) (i - 1) ^^^ (wordAt (u n) (i - 1) >>> 30)) * 1566083941#32))
            - u32 i) (u n) (u (n + 1)))
    ∧ ∀ k, k < 624 → wordAt w k = if k = 0 then 0x80000000#32 else wordAt (u 623) k

/-- The vector `w'` is the twist of `w`, read element by element (42_mt_generation.md R112, R118): element `i` uses
the old `i` and `i + 1` (the new 0 when `i` is 623), and the old `i + 397` up to 226, the new `i - 227` from 227. -/
def IsTwist (w w' : Words) : Prop :=
  ∀ i, i < 624 →
    let y := (wordAt w i &&& 0x80000000#32)
      ||| ((if i < 623 then wordAt w (i + 1) else wordAt w' 0) &&& 0x7FFFFFFF#32)
    wordAt w' i = (if i < 227 then wordAt w (i + 397) else wordAt w' (i - 227))
      ^^^ (y >>> 1) ^^^ (if y.getLsbD 0 then 0x9908B0DF#32 else 0#32)

/-- `r` is `y` tempered (42_mt_generation.md R113). -/
def IsTempered (y r : Word) : Prop :=
  ∃ a b c : Word, a = y ^^^ (y >>> 11) ∧ b = a ^^^ ((a <<< 7) &&& 0x9D2C5680#32)
    ∧ c = b ^^^ ((b <<< 15) &&& 0xEFC60000#32) ∧ r = c ^^^ (c >>> 18)

/-- Some bit of the vector other than bits 30:0 of `words[0]` is 1 (42_mt_generation.md R116). -/
def NonDegenerate (w : Words) : Prop :=
  wordAt w 0 &&& 0x80000000#32 ≠ 0#32 ∨ ∃ k, 1 ≤ k ∧ k ≤ 623 ∧ wordAt w k ≠ 0#32

/-- Every element of the vector is 0. -/
def AllZero (w : Words) : Prop := ∀ k, k < 624 → wordAt w k = 0#32

/-- Successive MT_NEXT commands, with nothing in between. -/
def Draws (f : Nat → State) : Prop := ∀ k, exec .mtNext (f k) = .next (f (k + 1))

/-! ### Errors -/

/-- The five conditions of 30_encoding.md R65, on the command word as a number. -/
def IllegalWord (w : Word) : Prop :=
  w.toNat % 256 = 0x00 ∨ 0x0C ≤ w.toNat % 256 ∨ w.toNat / 1024 ≠ 0
    ∨ (w.toNat % 256 = 0x01 ∧ w.toNat / 256 % 4 = 3) ∨ (w.toNat % 256 ≠ 0x01 ∧ w.toNat / 256 % 4 ≠ 0)

/-- When a command raises RANGE (60_exceptions.md R163). -/
def RangeCondition (i : Instr) (s : State) : Prop :=
  match i with
  | .mtSeedArray => s.arg0.toNat > s.keyMax
  | .mtWordRead => s.arg0.toNat > 623
  | .mtWordWrite => s.arg0.toNat > 623
  | .mtCursorWrite => s.arg0.toNat > 624
  | .keyWrite => s.arg0.toNat > s.keyMax - 1
  | .keyRead => s.arg0.toNat > s.keyMax - 1
  | .lcgNext _ => False
  | .mtSeedScalar => False
  | .mtNext => False
  | .bootstrap => False
  | .mtCursorRead => False

/-! ### The polling discipline -/

/-- The host's remaining operations obey the busy hazard (70_reset_and_hazards.md R186): after a write to CMD
nothing but STATUS is read until a `poll` has ended. The flag says that a command may be under way. -/
def polled : Bool → List HostOp → Bool
  | _, [] => true
  | true, .write _ _ :: _ => false
  | true, .read slot :: ops => slot == 1 && polled true ops
  | true, .poll :: ops => polled false ops
  | true, .reset :: ops => polled false ops
  | false, .write slot _ :: ops => polled (slot == 0) ops
  | false, .read _ :: ops => polled false ops
  | false, .poll :: ops => polled false ops
  | false, .reset :: ops => polled false ops

/-! ### Runs that read no unspecified value -/

/-- No value that is unspecified since reset has been read (10_state.md R36, U1). -/
abbrev State.Specified (s : State) : Prop := s.ghost.unspecifiedRead = false

/-- Two states that the spec does not tell apart: they hold the same wherever a value is defined since reset, and
may differ anywhere else. -/
structure Agree (s t : State) : Prop where
  ghost : s.ghost = t.ghost
  pending : s.pending = t.pending
  delay : s.delay = t.delay
  cursor : s.cursor = t.cursor
  seeded : s.seeded = t.seeded
  err : s.err = t.err
  host : s.host = t.host
  keyMax : s.keyMax = t.keyMax
  words : ∀ i, i < 624 → s.wordDefined i = true → wordAt s.words i = wordAt t.words i
  key : ∀ j, s.keyDefined j = true → keyAt s.key j = keyAt t.key j
  arg0 : s.ghost.arg0 = true → s.arg0 = t.arg0
  arg1 : s.ghost.arg1 = true → s.arg1 = t.arg1
  result : s.ghost.result = true → s.result = t.result
  lcgCell0 : s.ghost.lcgCell0 = true → s.lcgCell0 = t.lcgCell0
  lcgCell1 : s.ghost.lcgCell1 = true → s.lcgCell1 = t.lcgCell1
  holdrand : s.ghost.holdrand = true → s.holdrand = t.holdrand

end Sys2Proof.Machine
end

