-- ==== Sys2Proof/Certificates/Slice0/Obligations.lean ====
section
/-! DEFINITION. The statements for the provers. Each docstring names the rule of spec/ that it formalises, or says
that it rests on a choice of the model. No statement rests on a value that the spec leaves unspecified at reset. -/

open Sys2Proof Sys2Proof.Machine

/-! ### Encoding -/

/-- 30_encoding.md R60 to R64: a word decodes to a command just when the command is well formed and the word is its
encoding, for every word and every command. -/
def Obligations.DecodeExactlyInvertsEncode : Prop :=
  ∀ (w : Word) (i : Instr), decode w = .ok i ↔ (i.wf = true ∧ encode i = w)

/-- The thirteen command words of 30_encoding.md R64, as the table writes them, decode to their commands. -/
def Obligations.TableWordsDecode : Prop :=
  decode 0x00000001#32 = .ok (.lcgNext .arg0) ∧ decode 0x00000101#32 = .ok (.lcgNext .lcgCell0)
  ∧ decode 0x00000201#32 = .ok (.lcgNext .lcgCell1) ∧ decode 0x00000002#32 = .ok .mtSeedScalar
  ∧ decode 0x00000003#32 = .ok .mtSeedArray ∧ decode 0x00000004#32 = .ok .mtNext
  ∧ decode 0x00000005#32 = .ok .bootstrap ∧ decode 0x00000006#32 = .ok .mtWordRead
  ∧ decode 0x00000007#32 = .ok .mtWordWrite ∧ decode 0x00000008#32 = .ok .mtCursorRead
  ∧ decode 0x00000009#32 = .ok .mtCursorWrite ∧ decode 0x0000000A#32 = .ok .keyWrite
  ∧ decode 0x0000000B#32 = .ok .keyRead

/-- 30_encoding.md R65: an illegal command word completes with ILLEGAL and no other effect; no other word is
illegal. -/
def Obligations.IllegalWordOnlyRaisesIllegal : Prop :=
  ∀ (s : State) (w : Word), s.pending = some w → s.delay = 0 →
    (IllegalWord w → step s = .next { s with pending := none, err := .illegal })
    ∧ (¬ IllegalWord w → ∃ i, i.wf = true ∧ decode w = .ok i ∧ step s = exec i s)

/-- 60_exceptions.md R162: ILLEGAL arises exactly under the five conditions. -/
def Obligations.IllegalArisesExactlyUnderFiveConditions : Prop :=
  ∀ (s : State) (w : Word), s.pending = some w → s.delay = 0 →
    ∃ t, step s = .next t ∧ (t.err = .illegal ↔ IllegalWord w)

/-- 20_memory.md R47, 30_encoding.md R60: a due command word that decodes is executed in that step, and the step
adds nothing to it. -/
def Obligations.StepRunsTheDecodedCommand : Prop :=
  ∀ (s : State) (w : Word) (i : Instr), s.pending = some w → s.delay = 0 → decode w = .ok i → step s = exec i s

/-! ### The LCG -/

/-- 40_lcg.md R80: the fold-and-correct datapath, on integers. -/
def Obligations.LcgDatapath : Prop :=
  ∀ v : Word,
    let T := (sint32 v * 742938285) % 2 ^ 64
    let lo := T % 2 ^ 31
    let hi := T / 2 ^ 31 % 2 ^ 32
    let r := (lo + hi) % 2 ^ 32
    ((lcg31 v).toNat : Int) = if 0x7FFFFFFF ≤ r then r - 0x7FFFFFFF else r

/-- 40_lcg.md R82: for a seed of 0 or more the result is the exact residue, in 0..0x7FFFFFFE. -/
def Obligations.LcgIsExactOnNonNegativeSeeds : Prop :=
  ∀ v : Word, 0 ≤ sint32 v →
    ((lcg31 v).toNat : Int) = (sint32 v * 742938285) % (2 ^ 31 - 1) ∧ (lcg31 v).toNat ≤ 0x7FFFFFFE

/-- 40_lcg.md R84: for a negative seed, with the signed sum `σ`, the result is the exact residue when `σ` is 0 or
more, and the exact residue plus 2 otherwise. -/
def Obligations.LcgOnNegativeSeeds : Prop :=
  (∀ v : Word, sint32 v < 0 →
    let t := sint32 v * 742938285
    let σ := t % 2 ^ 31 + t / 2 ^ 31
    let r : Int := (lcg31 v).toNat
    (-(2 ^ 31) * 742938285 ≤ t ∧ t ≤ -742938285)
    ∧ (-742938285 ≤ t / 2 ^ 31 ∧ t / 2 ^ 31 ≤ -1)
    ∧ (-742938285 ≤ σ ∧ σ ≤ 2 ^ 31 - 2)
    ∧ (0 ≤ σ → r = σ ∧ r = t % (2 ^ 31 - 1))
    ∧ (σ < 0 → r = σ + 2 ^ 31 + 1 ∧ r = t % (2 ^ 31 - 1) + 2 ∧ 1404545364 ≤ r ∧ r ≤ 0x80000000
        ∧ (r = 0x80000000 ↔ σ = -1)))
  ∧ lcg31 0x80000000#32 = 1404545364#32 ∧ lcg31 0xABC6AAD0#32 = 0x80000000#32

/-- 40_lcg.md R83: the three seeds that give 0, and the streams that never stall; none of them raises an error. -/
def Obligations.LcgStallsAndNeverStalls : Prop :=
  (∀ n, lcg31^[n] 0#32 = 0#32) ∧ lcg31 0x7FFFFFFF#32 = 0#32 ∧ lcg31 0x80000001#32 = 0#32
  ∧ (∀ v : Word, 1 ≤ v.toNat → v.toNat ≤ 0x7FFFFFFE →
      ∀ n, 1 ≤ (lcg31^[n] v).toNat ∧ (lcg31^[n] v).toNat ≤ 0x7FFFFFFE)
  ∧ ∀ (c : CellSel) (s : State), c ≠ .reserved → ∃ t, exec (.lcgNext c) s = .next t ∧ t.err = .none

/-- 40_lcg.md R85: every result is in 0..0x80000000, above 0x7FFFFFFE only from a negative seed; 0x80000000 reads
back as -2^31; BOOTSTRAP leaves no negative cell. -/
def Obligations.LcgResultRange : Prop :=
  (∀ v : Word, (lcg31 v).toNat ≤ 0x80000000 ∧ (0x7FFFFFFE < (lcg31 v).toNat → sint32 v < 0))
  ∧ sint32 0x80000000#32 = -(2 ^ 31)
  ∧ ∀ s : State, ∃ t, exec .bootstrap s = .next t ∧ 0 ≤ sint32 t.lcgCell0 ∧ 0 ≤ sint32 t.lcgCell1

/-- 40_lcg.md R81: LCG_NEXT steps the cell that CELL selects, returns the new seed, and changes nothing else; with
the reserved CELL it raises ILLEGAL. -/
def Obligations.LcgNextStepsTheSelectedCell : Prop :=
  ∀ s : State,
    (∀ c : CellSel, c ≠ .reserved →
      ∃ t, exec (.lcgNext c) s = .next t ∧ t.cell c = lcg31 (s.cell c) ∧ t.result = lcg31 (s.cell c)
        ∧ t.err = .none ∧ t.busy = false
        ∧ SameOutside (fun p => some p = cellPlace c ∨ p = .result ∨ p = .err ∨ p = .busy) s t)
    ∧ ∃ t, exec (.lcgNext .reserved) s = .next t ∧ t.err = .illegal ∧ t.busy = false
        ∧ SameOutside (fun p => p = .err ∨ p = .busy) s t

/-- 40_lcg.md R86: LCG_NEXT neither reads nor writes the twister, and no other command but BOOTSTRAP reads or
writes an LCG cell. -/
def Obligations.LcgAndTwisterAreIndependent : Prop :=
  (∀ (c : CellSel) (s t : State) (w : Words) (cu : BitVec 10), exec (.lcgNext c) s = .next t →
    t.words = s.words ∧ t.cursor = s.cursor
    ∧ exec (.lcgNext c) { s with words := w, cursor := cu } = .next { t with words := w, cursor := cu })
  ∧ ∀ (i : Instr) (s t : State) (a b : Word), (∀ c, i ≠ .lcgNext c) → i ≠ .bootstrap → exec i s = .next t →
    t.lcgCell0 = s.lcgCell0 ∧ t.lcgCell1 = s.lcgCell1
    ∧ exec i { s with lcgCell0 := a, lcgCell1 := b } = .next { t with lcgCell0 := a, lcgCell1 := b }

/-! ### Seeding -/

/-- 41_mt_seeding.md R90, R91: MT_SEED_SCALAR leaves the vector of the scalar recurrence from ARG0, the cursor at
624 and SEEDED set, and changes nothing else. -/
def Obligations.SeedScalarFollowsTheRecurrence : Prop :=
  ∀ s : State, ∃ t, exec .mtSeedScalar s = .next t ∧ IsScalarSeed s.arg0 t.words ∧ t.cursor = 624#10
    ∧ t.seeded = true ∧ t.err = .none ∧ t.busy = false
    ∧ SameOutside (fun p => p.isWord ∨ p = .cursor ∨ p = .seeded ∨ p = .err ∨ p = .busy) s t

/-- 41_mt_seeding.md R92, R93: MT_SEED_ARRAY with a key length from 1 to KEY_MAX runs pass 1 at the positions
`1 + n mod 623` with the key indices `n mod L`, then pass 2 from where pass 1 ended, then forces `words[0]`; with
length 0 it leaves the scalar seed of 0; with a length above KEY_MAX it raises RANGE. -/
def Obligations.SeedArrayFollowsBothPasses : Prop :=
  ∀ s : State,
    (1 ≤ s.arg0.toNat → s.arg0.toNat ≤ s.keyMax →
      ∃ t, exec .mtSeedArray s = .next t ∧ IsArraySeed s.key s.arg0.toNat t.words ∧ t.cursor = 624#10
        ∧ t.seeded = true ∧ t.err = .none ∧ t.busy = false
        ∧ SameOutside (fun p => p.isWord ∨ p = .cursor ∨ p = .seeded ∨ p = .err ∨ p = .busy) s t)
    ∧ (s.arg0.toNat = 0 →
      ∃ t, exec .mtSeedArray s = .next t ∧ IsScalarSeed 0#32 t.words ∧ t.cursor = 624#10
        ∧ t.seeded = true ∧ t.err = .none ∧ t.busy = false
        ∧ SameOutside (fun p => p.isWord ∨ p = .cursor ∨ p = .seeded ∨ p = .err ∨ p = .busy) s t)
    ∧ (s.keyMax < s.arg0.toNat →
      ∃ t, exec .mtSeedArray s = .next t ∧ t.err = .range ∧ t.busy = false
        ∧ SameOutside (fun p => p = .err ∨ p = .busy) s t)

/-- 41_mt_seeding.md R98: after array seeding with a key of length at least 1, `words[0]` is 0x80000000 and the
cursor 624. -/
def Obligations.SeedArrayForcesWordZero : Prop :=
  ∀ s : State, 1 ≤ s.arg0.toNat → s.arg0.toNat ≤ s.keyMax →
    ∃ t, exec .mtSeedArray s = .next t ∧ wordAt t.words 0 = 0x80000000#32 ∧ t.cursor = 624#10

/-- 41_mt_seeding.md R96: with an empty key MT_SEED_ARRAY does what MT_SEED_SCALAR does with 0, whatever KEY
holds. -/
def Obligations.EmptyKeySeedsLikeScalarZero : Prop :=
  ∀ (s : State) (k : List Word), s.arg0 = 0#32 →
    ∃ t, exec .mtSeedArray s = .next t ∧ exec .mtSeedScalar s = .next t ∧ IsScalarSeed 0#32 t.words
      ∧ t.cursor = 624#10 ∧ t.seeded = true
      ∧ exec .mtSeedArray { s with key := k } = .next { t with key := k }

/-- 10_state.md R33: no seeding command leaves the all-zero vector; MT_WORD_WRITE can make one. -/
def Obligations.SeedingNeverLeavesTheZeroVector : Prop :=
  (∀ (i : Instr) (s t : State), (i = .mtSeedScalar ∨ i = .mtSeedArray ∨ i = .bootstrap) → exec i s = .next t →
    t.err = .none → ¬ AllZero t.words)
  ∧ ∃ s t : State, ¬ AllZero s.words ∧ exec .mtWordWrite s = .next t ∧ t.err = .none ∧ AllZero t.words

/-- 41_mt_seeding.md R99: what a seeding command leaves in the twister depends only on its operands (and on
KEY[0..L-1] for array seeding), whatever the state before, and so do the outputs drawn afterwards. -/
def Obligations.SeedingDependsOnlyOnItsOperands : Prop :=
  ∀ (i : Instr) (s₁ s₂ : State), s₁.arg0 = s₂.arg0 →
    (i = .mtSeedScalar ∨ i = .bootstrap ∨
      (i = .mtSeedArray ∧ s₁.arg0.toNat ≤ s₁.keyMax ∧ s₂.arg0.toNat ≤ s₂.keyMax
        ∧ ∀ j, j < s₁.arg0.toNat → keyAt s₁.key j = keyAt s₂.key j)) →
    ∃ t₁ t₂, exec i s₁ = .next t₁ ∧ exec i s₂ = .next t₂ ∧ t₁.words = t₂.words ∧ t₁.cursor = t₂.cursor
      ∧ ∀ f g : Nat → State, f 0 = t₁ → g 0 = t₂ → Draws f → Draws g →
          ∀ k, (f (k + 1)).result = (g (k + 1)).result

/-! ### Generation -/

/-- 42_mt_generation.md R110, R112, R113: MT_NEXT regenerates an exhausted vector by the twist recurrence, returns
the tempered word at the cursor, moves the cursor on, and changes nothing else; SEEDED plays no part. -/
def Obligations.MtNextRegeneratesAndDraws : Prop :=
  ∀ s : State,
    (s.cursor.toNat < 624 →
      ∃ t, exec .mtNext s = .next t ∧ t.cursor.toNat = s.cursor.toNat + 1
        ∧ IsTempered (wordAt s.words s.cursor.toNat) t.result ∧ t.err = .none ∧ t.busy = false
        ∧ SameOutside (fun p => p = .cursor ∨ p = .result ∨ p = .err ∨ p = .busy) s t)
    ∧ (624 ≤ s.cursor.toNat →
      ∃ t, exec .mtNext s = .next t ∧ IsTwist s.words t.words ∧ t.cursor.toNat = 1
        ∧ IsTempered (wordAt t.words 0) t.result ∧ t.err = .none ∧ t.busy = false
        ∧ SameOutside (fun p => p.isWord ∨ p = .cursor ∨ p = .result ∨ p = .err ∨ p = .busy) s t)
    ∧ ∀ (b : Bool) (t : State), exec .mtNext s = .next t →
        exec .mtNext { s with seeded := b } = .next { t with seeded := b }

/-- 42_mt_generation.md R111: a seeding command leaves the cursor at 624, and the k-th output from there is the
tempered word `(k - 1) mod 624` after `ceil(k / 624)` twist passes. -/
def Obligations.OutputSequenceAfterSeeding : Prop :=
  (∀ (i : Instr) (s t : State), (i = .mtSeedScalar ∨ i = .mtSeedArray ∨ i = .bootstrap) → exec i s = .next t →
    t.err = .none → t.cursor = 624#10)
  ∧ ∀ f : Nat → State, Draws f → (f 0).cursor = 624#10 →
    ∀ k, 1 ≤ k →
      (f k).words = twist^[(k + 623) / 624] (f 0).words
      ∧ (f k).cursor.toNat = (k - 1) % 624 + 1
      ∧ (f k).result = temper (wordAt (f k).words ((k - 1) % 624))

/-- A twist pass keeps the vector from being all zero outside bits 30:0 of `words[0]`. This is more than the first
part of 42_mt_generation.md R116, whose conclusion is only "not all zero": it is the remark G4 of
93_implementation_defined.md Part 2, which the spec marks as general knowledge. Its proof rests on R112 alone. -/
def Obligations.TwistKeepsNonDegenerate : Prop :=
  ∀ w : Words, NonDegenerate w → NonDegenerate (twist w)

/-- 42_mt_generation.md R116, last part: bits 30:0 of `words[0]` enter no twist result. -/
def Obligations.TwistIgnoresLowBitsOfWordZero : Prop :=
  ∀ (w : Words) (x : Word), x &&& 0x80000000#32 = wordAt w 0 &&& 0x80000000#32 → twist (setWordAt w 0 x) = twist w

/-- 42_mt_generation.md R115, R117: the twist keeps the all-zero vector and 0 tempers to 0, so from it every
MT_NEXT returns 0, with ERR = 0, and the vector stays all zero. -/
def Obligations.ZeroVectorDrawsZeroForever : Prop :=
  (∀ w : Words, AllZero w → AllZero (twist w)) ∧ temper 0#32 = 0#32
  ∧ ∀ f : Nat → State, Draws f → AllZero (f 0).words →
    ∀ k, AllZero (f k).words ∧ (f (k + 1)).result = 0#32 ∧ (f (k + 1)).err = .none

/-- 10_state.md R34: the outputs follow from `words` and `cursor` alone. -/
def Obligations.TwisterStateDeterminesAllOutputs : Prop :=
  ∀ f g : Nat → State, Draws f → Draws g → (f 0).words = (g 0).words → (f 0).cursor = (g 0).cursor →
    ∀ k, (f (k + 1)).result = (g (k + 1)).result ∧ (f k).words = (g k).words ∧ (f k).cursor = (g k).cursor

/-- 42_mt_generation.md R114: MT_NEXT runs on an unseeded state as on a seeded one, and raises no error. -/
def Obligations.MtNextIgnoresSeeded : Prop :=
  ∀ s : State, s.seeded = false →
    ∃ t, exec .mtNext s = .next t ∧ t.err = .none ∧ t.seeded = false
      ∧ exec .mtNext { s with seeded := true } = .next { t with seeded := true }

/-! ### Bootstrap -/

/-- 43_bootstrap.md R130: the time fold leaves `t mod 0x7FFFFFFE`, plus 1, in 1..0x7FFFFFFE. -/
def Obligations.TimeFoldIsTheRemainderPlusOne : Prop :=
  ∀ t : Word, (foldTime t).toNat = t.toNat % 0x7FFFFFFE + 1 ∧ 1 ≤ (foldTime t).toNat
    ∧ (foldTime t).toNat ≤ 0x7FFFFFFE

/-- 43_bootstrap.md R131: BOOTSTRAP sets both cells, HOLDRAND and the whole twister, and changes nothing else. -/
def Obligations.BootstrapInitialisesTheBlock : Prop :=
  ∀ s : State, ∃ t, exec .bootstrap s = .next t ∧ t.lcgCell0 = 15937#32
    ∧ t.lcgCell1.toNat = s.arg0.toNat % 0x7FFFFFFE + 1 ∧ IsScalarSeed 5489#32 t.words ∧ t.cursor = 624#10
    ∧ t.holdrand = 2345678#32 ∧ t.seeded = true ∧ t.err = .none ∧ t.busy = false
    ∧ SameOutside (fun p => p.isWord ∨ p = .cursor ∨ p = .lcgCell0 ∨ p = .lcgCell1 ∨ p = .holdrand ∨ p = .seeded
        ∨ p = .err ∨ p = .busy) s t

/-- 43_bootstrap.md R132: whatever the time value, the cells that BOOTSTRAP leaves are in 1..0x7FFFFFFE, and neither
stream ever stalls. -/
def Obligations.BootstrapStreamsNeverStall : Prop :=
  ∀ s : State, ∃ t, exec .bootstrap s = .next t
    ∧ (1 ≤ t.lcgCell1.toNat ∧ t.lcgCell1.toNat ≤ 0x7FFFFFFE) ∧ (1 ≤ t.lcgCell0.toNat ∧ t.lcgCell0.toNat ≤ 0x7FFFFFFE)
    ∧ ∀ n, lcg31^[n] t.lcgCell1 ≠ 0#32 ∧ lcg31^[n] t.lcgCell0 ≠ 0#32

/-- 43_bootstrap.md R133: a repeated BOOTSTRAP does its whole effect again: right after the first it changes
nothing, and after any other commands it leaves the same cells, HOLDRAND and twister. -/
def Obligations.RepeatedBootstrapActsInFull : Prop :=
  (∀ s t : State, exec .bootstrap s = .next t → exec .bootstrap t = .next t)
  ∧ ∀ s s' : State, s.arg0 = s'.arg0 → ∃ t t', exec .bootstrap s = .next t ∧ exec .bootstrap s' = .next t'
    ∧ t.words = t'.words ∧ t.cursor = t'.cursor ∧ t.lcgCell0 = t'.lcgCell0 ∧ t.lcgCell1 = t'.lcgCell1
    ∧ t.holdrand = t'.holdrand ∧ t'.err = .none ∧ t'.seeded = true

/-! ### State access -/

/-- 44_state_access.md R141: MT_WORD_READ. -/
def Obligations.WordReadReturnsTheElement : Prop :=
  ∀ s : State,
    (s.arg0.toNat ≤ 623 → ∃ t, exec .mtWordRead s = .next t ∧ t.result = wordAt s.words s.arg0.toNat
      ∧ t.err = .none ∧ t.busy = false ∧ SameOutside (fun p => p = .result ∨ p = .err ∨ p = .busy) s t)
    ∧ (623 < s.arg0.toNat → ∃ t, exec .mtWordRead s = .next t ∧ t.err = .range ∧ t.busy = false
      ∧ SameOutside (fun p => p = .err ∨ p = .busy) s t)

/-- 44_state_access.md R142: MT_WORD_WRITE stores ARG1 at the index ARG0 and nowhere else. -/
def Obligations.WordWriteStoresOneElement : Prop :=
  ∀ s : State,
    (∀ i : Fin 624, s.arg0.toNat = i.val → ∃ t, exec .mtWordWrite s = .next t ∧ wordAt t.words i.val = s.arg1
      ∧ t.err = .none ∧ t.busy = false ∧ SameOutside (fun p => p = .word i ∨ p = .err ∨ p = .busy) s t)
    ∧ (623 < s.arg0.toNat → ∃ t, exec .mtWordWrite s = .next t ∧ t.err = .range ∧ t.busy = false
      ∧ SameOutside (fun p => p = .err ∨ p = .busy) s t)

/-- 44_state_access.md R143: MT_CURSOR_READ. -/
def Obligations.CursorReadReturnsTheCursor : Prop :=
  ∀ s : State, ∃ t, exec .mtCursorRead s = .next t ∧ t.result.toNat = s.cursor.toNat ∧ t.err = .none
    ∧ t.busy = false ∧ SameOutside (fun p => p = .result ∨ p = .err ∨ p = .busy) s t

/-- 44_state_access.md R144: MT_CURSOR_WRITE sets the cursor and SEEDED, for values up to 624. -/
def Obligations.CursorWriteSetsCursorAndSeeded : Prop :=
  ∀ s : State,
    (s.arg0.toNat ≤ 624 → ∃ t, exec .mtCursorWrite s = .next t ∧ t.cursor.toNat = s.arg0.toNat ∧ t.seeded = true
      ∧ t.err = .none ∧ t.busy = false
      ∧ SameOutside (fun p => p = .cursor ∨ p = .seeded ∨ p = .err ∨ p = .busy) s t)
    ∧ (624 < s.arg0.toNat → ∃ t, exec .mtCursorWrite s = .next t ∧ t.err = .range ∧ t.busy = false
      ∧ SameOutside (fun p => p = .err ∨ p = .busy) s t)

/-- 44_state_access.md R145: KEY_WRITE stores ARG1 at the key index ARG0 and nowhere else, for every KEY_MAX. -/
def Obligations.KeyWriteStoresOneEntry : Prop :=
  ∀ s : State, 1 ≤ s.keyMax →
    (s.arg0.toNat ≤ s.keyMax - 1 → ∃ t, exec .keyWrite s = .next t ∧ keyAt t.key s.arg0.toNat = s.arg1
      ∧ t.err = .none ∧ t.busy = false
      ∧ SameOutside (fun p => p = .key s.arg0.toNat ∨ p = .err ∨ p = .busy) s t)
    ∧ (s.arg0.toNat > s.keyMax - 1 → ∃ t, exec .keyWrite s = .next t ∧ t.err = .range ∧ t.busy = false
      ∧ SameOutside (fun p => p = .err ∨ p = .busy) s t)

/-- 44_state_access.md R146: KEY_READ. -/
def Obligations.KeyReadReturnsTheEntry : Prop :=
  ∀ s : State, 1 ≤ s.keyMax →
    (s.arg0.toNat ≤ s.keyMax - 1 → ∃ t, exec .keyRead s = .next t ∧ t.result = keyAt s.key s.arg0.toNat
      ∧ t.err = .none ∧ t.busy = false ∧ SameOutside (fun p => p = .result ∨ p = .err ∨ p = .busy) s t)
    ∧ (s.arg0.toNat > s.keyMax - 1 → ∃ t, exec .keyRead s = .next t ∧ t.err = .range ∧ t.busy = false
      ∧ SameOutside (fun p => p = .err ∨ p = .busy) s t)

/-- 44_state_access.md R147: reading the 624 elements in order and then the cursor returns the state at the start
of the snapshot, and leaves it. -/
def Obligations.SnapshotReturnsTheStateAtItsStart : Prop :=
  ∀ f : Nat → State,
    (∀ k, k < 624 → exec .mtWordRead ((f k).setArg0 (u32 k)) = .next (f (k + 1))) →
    (∀ k, k < 624 → (f (k + 1)).result = wordAt (f 0).words k)
    ∧ ∃ t, exec .mtCursorRead (f 624) = .next t ∧ t.result.toNat = (f 0).cursor.toNat
        ∧ t.words = (f 0).words ∧ t.cursor = (f 0).cursor

/-- 44_state_access.md R148: writing the 624 saved elements and then the saved cursor leaves exactly the saved
twister state, with SEEDED set, from any state. -/
def Obligations.RestoreLeavesTheSavedTwister : Prop :=
  ∀ (ws : Words) (c : BitVec 10) (f : Nat → State), c.toNat ≤ 624 →
    (∀ k, k < 624 → exec .mtWordWrite (((f k).setArg0 (u32 k)).setArg1 (wordAt ws k)) = .next (f (k + 1))) →
    ∃ t, exec .mtCursorWrite ((f 624).setArg0 (c.setWidth 32)) = .next t ∧ t.words = ws ∧ t.cursor = c
      ∧ t.seeded = true ∧ t.err = .none

/-! ### Errors -/

/-- 60_exceptions.md R163: RANGE arises exactly under the table's conditions, and every well-formed command
completes. KEY_MAX is at least 1 (00_scope.md R8). -/
def Obligations.RangeArisesExactlyWhenAnOperandIsOut : Prop :=
  ∀ (i : Instr) (s : State), i.wf = true → 1 ≤ s.keyMax →
    ∃ t, exec i s = .next t ∧ (t.err = .range ↔ RangeCondition i s)

/-- 00_scope.md R12, 60_exceptions.md R160, R165: a due command always completes in its step; one that raises an
error changes nothing but ERR and BUSY. -/
def Obligations.ErrorsChangeNothingButErrAndBusy : Prop :=
  ∀ (s : State) (w : Word), s.pending = some w → s.delay = 0 →
    ∃ t, step s = .next t ∧ t.busy = false
      ∧ (t.err ≠ .none → SameOutside (fun p => p = .err ∨ p = .busy) s t)

/-! ### The register port and STATUS -/

/-- 10_state.md R24: the fields of STATUS as a port read sees them, for every state. -/
def Obligations.StatusLayout : Prop :=
  ∀ s : State,
    s.statusWord.getLsbD 0 = s.busy ∧ s.statusWord.getLsbD 1 = s.seeded
    ∧ s.statusWord.extractLsb' 2 2 = 0#2
    ∧ (s.statusWord.extractLsb' 4 4).toNat = s.err.code ∧ s.err.code ≤ 2
    ∧ s.statusWord.extractLsb' 8 24 = 0#24

/-- 10_state.md R22, R23, R30: what a port write does while the block is idle, slot by slot. How many host turns
the latched command waits is the model's choice (log 4), and nothing is said of it here. -/
def Obligations.PortWriteSlotBySlot : Prop :=
  ∀ (s : State) (slot : BitVec 4) (v : Word), s.busy = false →
    ∃ t, portWrite slot v s = .next t
      ∧ (slot.toNat = 0 → t.pending = some v ∧ t.busy = true)
      ∧ (slot.toNat ≠ 0 → t.pending = none ∧ t.host = s.host)
      ∧ (slot.toNat = 2 → t.arg0 = v) ∧ (slot.toNat = 3 → t.arg1 = v)
      ∧ (slot.toNat = 5 → t.lcgCell0 = v) ∧ (slot.toNat = 6 → t.lcgCell1 = v) ∧ (slot.toNat = 7 → t.holdrand = v)
      ∧ (slot.toNat = 1 ∨ slot.toNat = 4 ∨ 8 ≤ slot.toNat → t = s)
      ∧ t.keyMax = s.keyMax
      ∧ ∀ p, ¬ ((slot.toNat = 0 ∧ p = .busy) ∨ (slot.toNat = 2 ∧ p = .arg0) ∨ (slot.toNat = 3 ∧ p = .arg1)
          ∨ (slot.toNat = 5 ∧ p = .lcgCell0) ∨ (slot.toNat = 6 ∧ p = .lcgCell1) ∨ (slot.toNat = 7 ∧ p = .holdrand)) →
          t.peek p = s.peek p

/-- 10_state.md R22, R23, R30, 20_memory.md R48: what a port read returns, slot by slot, and that it changes
nothing in the block. A second read with no write between returns the same. -/
def Obligations.PortReadSlotBySlot : Prop :=
  ∀ (s : State) (slot : BitVec 4), (s.busy = false ∨ slot.toNat = 1) →
    ∃ t v, portRead slot s = .next t ∧ t.host.observed = v :: s.host.observed
      ∧ (slot.toNat = 0 ∨ 8 ≤ slot.toNat → v = 0#32) ∧ (slot.toNat = 1 → v = s.statusWord)
      ∧ (slot.toNat = 2 → v = s.arg0) ∧ (slot.toNat = 3 → v = s.arg1) ∧ (slot.toNat = 4 → v = s.result)
      ∧ (slot.toNat = 5 → v = s.lcgCell0) ∧ (slot.toNat = 6 → v = s.lcgCell1) ∧ (slot.toNat = 7 → v = s.holdrand)
      ∧ (∀ p, t.peek p = s.peek p) ∧ t.pending = s.pending ∧ t.delay = s.delay ∧ t.keyMax = s.keyMax
      ∧ ∃ t', portRead slot t = .next t' ∧ t'.host.observed = v :: v :: s.host.observed

/-- 70_reset_and_hazards.md R186, with U4's treatment, which is the model's choice (log 5): while BUSY = 1 every
write and every read but of STATUS stops the model, and a read of STATUS does not. -/
def Obligations.BusyAccessStops : Prop :=
  ∀ (s : State) (slot : BitVec 4) (v : Word), s.busy = true →
    portWrite slot v s = .fault .busyAccess
    ∧ (slot.toNat ≠ 1 → portRead slot s = .fault .busyAccess)
    ∧ (slot.toNat = 1 → ∃ t, portRead slot s = .next t)

/-- 70_reset_and_hazards.md R192: a pending command completes, and BUSY falls, after as many host turns as its
latency, while the host only reads STATUS. That latency is counted in host turns is the model's choice (log 4). -/
def Obligations.PendingCommandCompletes : Prop :=
  ∀ s : State, s.busy = true → (∀ op ∈ s.host.ops, op = .poll ∨ op = .read 1#4) →
    ∃ t, Host.Core.run Sys2Proof.core (s.delay + 1) s = .next t ∧ t.busy = false

/-- 70_reset_and_hazards.md R186: a host that polls after every CMD write never meets the busy hazard, whatever the
latencies: the step goes on, and what is left of the host's operations is still so. -/
def Obligations.PolledHostNeverMeetsTheBusyHazard : Prop :=
  ∀ s : State, polled s.busy s.host.ops = true →
    ∃ t, step s = .next t ∧ polled t.busy t.host.ops = true

/-- 30_encoding.md R71: programs made of the pseudo-instructions obey the polling discipline. -/
def Obligations.PseudoProgramsArePolled : Prop :=
  ∀ ps : List Pseudo, polled false (ps.flatMap Pseudo.expand) = true

/-- 30_encoding.md R72: an assembler refuses a line that is no program line, by its number. Which lines are program
lines is the model's reading of R70 to R72 (log 9); that lines are numbered from 1 and that the first refused line is
the one reported are the model's choices (log 11). -/
def Obligations.AssemblerRefusesByLineNumber : Prop :=
  ∀ (lines : List (List Char)) (n : Nat),
    assemble lines = .error n ↔
      ∃ before line after, lines = before ++ line :: after ∧ n = before.length + 1 ∧ assembleLine line = none
        ∧ ∀ l ∈ before, assembleLine l ≠ none

/-! ### Whole-machine rules -/

/-- 10_state.md R21, R35, 00_scope.md R8: the reset state satisfies the invariant, for every KEY_MAX of at least 1. -/
def Obligations.ResetSatisfiesTheInvariant : Prop :=
  State.reset.Inv ∧ ∀ m, 1 ≤ m → (State.resetWith m).Inv

/-- 10_state.md R21: every step keeps the invariant: the cursor stays in 0..624, KEY_MAX at least 1, and nothing
is under way without a pending command. -/
def Obligations.EveryStepKeepsTheInvariant : Prop :=
  ∀ s t : State, s.Inv → step s = .next t → t.Inv

/-- 10_state.md R24, 70_reset_and_hazards.md R180: only reset clears SEEDED, and only a seeding command, BOOTSTRAP
or MT_CURSOR_WRITE sets it. -/
def Obligations.SeededIsClearedOnlyByReset : Prop :=
  ∀ s t : State, step s = .next t →
    (s.seeded = true → t.seeded = false → ∃ rest, s.host.ops = .reset :: rest)
    ∧ (s.seeded = false → t.seeded = true →
        ∃ i, s.readyCommand = some (encode i)
          ∧ (i = .mtSeedScalar ∨ i = .mtSeedArray ∨ i = .bootstrap ∨ i = .mtCursorWrite) ∧ t.err = .none)

/-- 10_state.md R27: only KEY_WRITE (and reset) changes KEY, and nothing changes KEY_MAX. -/
def Obligations.KeyIsWrittenOnlyByKeyWrite : Prop :=
  ∀ s t : State, step s = .next t →
    t.keyMax = s.keyMax
    ∧ (t.key ≠ s.key → s.readyCommand = some 0x0000000A#32 ∨ ∃ rest, s.host.ops = .reset :: rest)

/-- 10_state.md R29: only BOOTSTRAP, a port write of slot 7 and reset change HOLDRAND; no other command reads it, and
BOOTSTRAP does not read it either. -/
def Obligations.HoldrandIsTouchedOnlyByBootstrap : Prop :=
  (∀ s t : State, step s = .next t → t.holdrand ≠ s.holdrand →
    s.readyCommand = some 0x00000005#32
    ∨ ∃ op rest, s.host.ops = op :: rest ∧ (op = .reset ∨ ∃ v, op = .write 7#4 v))
  ∧ (∀ (i : Instr) (s t : State) (h : Word), i ≠ .bootstrap → exec i s = .next t →
    exec i { s with holdrand := h } = .next { t with holdrand := h })
  ∧ ∀ (s : State) (h : Word), ∃ t, exec .bootstrap s = .next t ∧ exec .bootstrap { s with holdrand := h } = .next t

/-- 10_state.md R26: only the commands that produce a value change RESULT, and only when they raise no error; of all
steps, only such a command's and a reset change it. -/
def Obligations.ResultIsWrittenOnlyByProducers : Prop :=
  (∀ (i : Instr) (s t : State), exec i s = .next t → t.result ≠ s.result →
    t.err = .none ∧ ((∃ c, i = .lcgNext c) ∨ i = .mtNext ∨ i = .mtWordRead ∨ i = .mtCursorRead ∨ i = .keyRead))
  ∧ ∀ s t : State, step s = .next t → t.result ≠ s.result →
    (∃ i, s.readyCommand = some (encode i) ∧ t.err = .none
      ∧ ((∃ c, i = .lcgNext c) ∨ i = .mtNext ∨ i = .mtWordRead ∨ i = .mtCursorRead ∨ i = .keyRead))
    ∨ (s.readyCommand = none ∧ ∃ rest, s.host.ops = .reset :: rest)

/-- 10_state.md R25: LCG_NEXT with CELL = 0 is the only command that writes an ARG register. -/
def Obligations.ArgsAreWrittenOnlyByLcgNext : Prop :=
  ∀ (i : Instr) (s t : State), exec i s = .next t →
    t.arg1 = s.arg1 ∧ (t.arg0 ≠ s.arg0 → i = .lcgNext .arg0)

/-- 70_reset_and_hazards.md R180, 10_state.md R35: reset, at any moment at which the block does not step, drops a
pending command with none of its effects, clears STATUS and sets the cursor to 624. What the data then holds is
the model's choice (log 1, log 6), and nothing is said of it here. -/
def Obligations.ResetDropsThePendingCommand : Prop :=
  (∀ (s : State) (rest : List HostOp), s.readyCommand = none → s.host.ops = .reset :: rest →
    ∃ t, step s = .next t ∧ t.pending = none ∧ t.delay = 0 ∧ t.statusWord = 0#32 ∧ t.cursor = 624#10
      ∧ t.keyMax = s.keyMax ∧ t.host = { s.host with ops := rest })
  ∧ State.reset.pending = none ∧ State.reset.statusWord = 0#32 ∧ State.reset.cursor = 624#10

/-- 10_state.md R36, 70_reset_and_hazards.md R182 to R184: two states that the spec does not tell apart take the
same steps, and what they then hold is not told apart either, as long as no unspecified value is read. So no
specified observation depends on the values the model chose for reset (log 1, log 2). -/
def Obligations.SpecifiedRunsIgnoreUnspecifiedData : Prop :=
  ∀ s₁ s₂ t₁ : State, Agree s₁ s₂ → step s₁ = .next t₁ → t₁.Specified →
    ∃ t₂, step s₂ = .next t₂ ∧ Agree t₁ t₂

/-! ### The host's turn -/

/-- 20_memory.md R47, R50, 00_scope.md R15: while no command is due, a step is the host's next operation at the port,
in program order, or nothing when it has none. That a host turn counts towards the latency is the model's choice
(log 4). The fourth operation, reset, is ResetDropsThePendingCommand's. -/
def Obligations.HostTurnMakesTheNextOperation : Prop :=
  ∀ s : State, s.readyCommand = none →
    (s.host.ops = [] → step s = .next { s with delay := s.delay - 1 })
    ∧ ∀ op rest, s.host.ops = op :: rest →
      let u := { s with delay := s.delay - 1, host := { s.host with ops := rest } }
      (∀ slot v, op = .write slot v → step s = portWrite slot v u)
      ∧ (∀ slot, op = .read slot → step s = portRead slot u)
      ∧ (op = .poll → ∃ t, step s = .next t ∧ t.host.observed = u.statusWord :: s.host.observed
          ∧ t.host.ops = if s.busy then .poll :: rest else rest)

/-- 20_memory.md R50, R48, 70_reset_and_hazards.md R180: the block's state changes only at port writes, at command
completions and at reset: a turn with no operation, a read and a poll leave every place, KEY_MAX and the CMD latch as
they were. -/
def Obligations.BlockChangesOnlyAtWritesAndCompletions : Prop :=
  ∀ s t : State, step s = .next t →
    (∃ w, s.readyCommand = some w)
    ∨ (∃ slot v rest, s.host.ops = .write slot v :: rest)
    ∨ (∃ rest, s.host.ops = .reset :: rest)
    ∨ ((∀ p, t.peek p = s.peek p) ∧ t.keyMax = s.keyMax ∧ t.pending = s.pending)
end

