-- ==== Sys2Proof/Laws/State.lean ====
section
/-! SUPPORT. What each named update of the state does to each field, so that no later proof unfolds a record update.

The lemmas of one update stand together; `<update>_<field>` says what that field then holds. -/

namespace Sys2Proof.Machine

/-! ### `noteRead` -/

@[simp] theorem State.noteRead_words (s : State) (b : Bool) : (s.noteRead b).words = s.words := rfl
@[simp] theorem State.noteRead_cursor (s : State) (b : Bool) : (s.noteRead b).cursor = s.cursor := rfl
@[simp] theorem State.noteRead_key (s : State) (b : Bool) : (s.noteRead b).key = s.key := rfl
@[simp] theorem State.noteRead_pending (s : State) (b : Bool) : (s.noteRead b).pending = s.pending := rfl
@[simp] theorem State.noteRead_delay (s : State) (b : Bool) : (s.noteRead b).delay = s.delay := rfl
@[simp] theorem State.noteRead_seeded (s : State) (b : Bool) : (s.noteRead b).seeded = s.seeded := rfl
@[simp] theorem State.noteRead_err (s : State) (b : Bool) : (s.noteRead b).err = s.err := rfl
@[simp] theorem State.noteRead_arg0 (s : State) (b : Bool) : (s.noteRead b).arg0 = s.arg0 := rfl
@[simp] theorem State.noteRead_arg1 (s : State) (b : Bool) : (s.noteRead b).arg1 = s.arg1 := rfl
@[simp] theorem State.noteRead_result (s : State) (b : Bool) : (s.noteRead b).result = s.result := rfl
@[simp] theorem State.noteRead_lcgCell0 (s : State) (b : Bool) : (s.noteRead b).lcgCell0 = s.lcgCell0 := rfl
@[simp] theorem State.noteRead_lcgCell1 (s : State) (b : Bool) : (s.noteRead b).lcgCell1 = s.lcgCell1 := rfl
@[simp] theorem State.noteRead_holdrand (s : State) (b : Bool) : (s.noteRead b).holdrand = s.holdrand := rfl
@[simp] theorem State.noteRead_host (s : State) (b : Bool) : (s.noteRead b).host = s.host := rfl
@[simp] theorem State.noteRead_ghost (s : State) (b : Bool) :
    (s.noteRead b).ghost = { s.ghost with unspecifiedRead := s.ghost.unspecifiedRead || !b } := rfl
@[simp] theorem State.noteRead_busy (s : State) (b : Bool) : (s.noteRead b).busy = s.busy := rfl
@[simp] theorem State.noteRead_keyMax (s : State) (b : Bool) : (s.noteRead b).keyMax = s.keyMax := rfl

/-! ### `setArg0` -/

@[simp] theorem State.setArg0_words (s : State) (v : Word) : (s.setArg0 v).words = s.words := rfl
@[simp] theorem State.setArg0_cursor (s : State) (v : Word) : (s.setArg0 v).cursor = s.cursor := rfl
@[simp] theorem State.setArg0_key (s : State) (v : Word) : (s.setArg0 v).key = s.key := rfl
@[simp] theorem State.setArg0_pending (s : State) (v : Word) : (s.setArg0 v).pending = s.pending := rfl
@[simp] theorem State.setArg0_delay (s : State) (v : Word) : (s.setArg0 v).delay = s.delay := rfl
@[simp] theorem State.setArg0_seeded (s : State) (v : Word) : (s.setArg0 v).seeded = s.seeded := rfl
@[simp] theorem State.setArg0_err (s : State) (v : Word) : (s.setArg0 v).err = s.err := rfl
@[simp] theorem State.setArg0_arg0 (s : State) (v : Word) : (s.setArg0 v).arg0 = v := rfl
@[simp] theorem State.setArg0_arg1 (s : State) (v : Word) : (s.setArg0 v).arg1 = s.arg1 := rfl
@[simp] theorem State.setArg0_result (s : State) (v : Word) : (s.setArg0 v).result = s.result := rfl
@[simp] theorem State.setArg0_lcgCell0 (s : State) (v : Word) : (s.setArg0 v).lcgCell0 = s.lcgCell0 := rfl
@[simp] theorem State.setArg0_lcgCell1 (s : State) (v : Word) : (s.setArg0 v).lcgCell1 = s.lcgCell1 := rfl
@[simp] theorem State.setArg0_holdrand (s : State) (v : Word) : (s.setArg0 v).holdrand = s.holdrand := rfl
@[simp] theorem State.setArg0_host (s : State) (v : Word) : (s.setArg0 v).host = s.host := rfl
@[simp] theorem State.setArg0_ghost (s : State) (v : Word) :
    (s.setArg0 v).ghost = { s.ghost with arg0 := true } := rfl
@[simp] theorem State.setArg0_busy (s : State) (v : Word) : (s.setArg0 v).busy = s.busy := rfl
@[simp] theorem State.setArg0_keyMax (s : State) (v : Word) : (s.setArg0 v).keyMax = s.keyMax := rfl

/-! ### `setArg1` -/

@[simp] theorem State.setArg1_words (s : State) (v : Word) : (s.setArg1 v).words = s.words := rfl
@[simp] theorem State.setArg1_cursor (s : State) (v : Word) : (s.setArg1 v).cursor = s.cursor := rfl
@[simp] theorem State.setArg1_key (s : State) (v : Word) : (s.setArg1 v).key = s.key := rfl
@[simp] theorem State.setArg1_pending (s : State) (v : Word) : (s.setArg1 v).pending = s.pending := rfl
@[simp] theorem State.setArg1_delay (s : State) (v : Word) : (s.setArg1 v).delay = s.delay := rfl
@[simp] theorem State.setArg1_seeded (s : State) (v : Word) : (s.setArg1 v).seeded = s.seeded := rfl
@[simp] theorem State.setArg1_err (s : State) (v : Word) : (s.setArg1 v).err = s.err := rfl
@[simp] theorem State.setArg1_arg0 (s : State) (v : Word) : (s.setArg1 v).arg0 = s.arg0 := rfl
@[simp] theorem State.setArg1_arg1 (s : State) (v : Word) : (s.setArg1 v).arg1 = v := rfl
@[simp] theorem State.setArg1_result (s : State) (v : Word) : (s.setArg1 v).result = s.result := rfl
@[simp] theorem State.setArg1_lcgCell0 (s : State) (v : Word) : (s.setArg1 v).lcgCell0 = s.lcgCell0 := rfl
@[simp] theorem State.setArg1_lcgCell1 (s : State) (v : Word) : (s.setArg1 v).lcgCell1 = s.lcgCell1 := rfl
@[simp] theorem State.setArg1_holdrand (s : State) (v : Word) : (s.setArg1 v).holdrand = s.holdrand := rfl
@[simp] theorem State.setArg1_host (s : State) (v : Word) : (s.setArg1 v).host = s.host := rfl
@[simp] theorem State.setArg1_ghost (s : State) (v : Word) :
    (s.setArg1 v).ghost = { s.ghost with arg1 := true } := rfl
@[simp] theorem State.setArg1_busy (s : State) (v : Word) : (s.setArg1 v).busy = s.busy := rfl
@[simp] theorem State.setArg1_keyMax (s : State) (v : Word) : (s.setArg1 v).keyMax = s.keyMax := rfl

/-! ### `setResult` -/

@[simp] theorem State.setResult_words (s : State) (v : Word) : (s.setResult v).words = s.words := rfl
@[simp] theorem State.setResult_cursor (s : State) (v : Word) : (s.setResult v).cursor = s.cursor := rfl
@[simp] theorem State.setResult_key (s : State) (v : Word) : (s.setResult v).key = s.key := rfl
@[simp] theorem State.setResult_pending (s : State) (v : Word) : (s.setResult v).pending = s.pending := rfl
@[simp] theorem State.setResult_delay (s : State) (v : Word) : (s.setResult v).delay = s.delay := rfl
@[simp] theorem State.setResult_seeded (s : State) (v : Word) : (s.setResult v).seeded = s.seeded := rfl
@[simp] theorem State.setResult_err (s : State) (v : Word) : (s.setResult v).err = s.err := rfl
@[simp] theorem State.setResult_arg0 (s : State) (v : Word) : (s.setResult v).arg0 = s.arg0 := rfl
@[simp] theorem State.setResult_arg1 (s : State) (v : Word) : (s.setResult v).arg1 = s.arg1 := rfl
@[simp] theorem State.setResult_result (s : State) (v : Word) : (s.setResult v).result = v := rfl
@[simp] theorem State.setResult_lcgCell0 (s : State) (v : Word) : (s.setResult v).lcgCell0 = s.lcgCell0 := rfl
@[simp] theorem State.setResult_lcgCell1 (s : State) (v : Word) : (s.setResult v).lcgCell1 = s.lcgCell1 := rfl
@[simp] theorem State.setResult_holdrand (s : State) (v : Word) : (s.setResult v).holdrand = s.holdrand := rfl
@[simp] theorem State.setResult_host (s : State) (v : Word) : (s.setResult v).host = s.host := rfl
@[simp] theorem State.setResult_ghost (s : State) (v : Word) :
    (s.setResult v).ghost = { s.ghost with result := true } := rfl
@[simp] theorem State.setResult_busy (s : State) (v : Word) : (s.setResult v).busy = s.busy := rfl
@[simp] theorem State.setResult_keyMax (s : State) (v : Word) : (s.setResult v).keyMax = s.keyMax := rfl

/-! ### `setLcgCell0` -/

@[simp] theorem State.setLcgCell0_words (s : State) (v : Word) : (s.setLcgCell0 v).words = s.words := rfl
@[simp] theorem State.setLcgCell0_cursor (s : State) (v : Word) : (s.setLcgCell0 v).cursor = s.cursor := rfl
@[simp] theorem State.setLcgCell0_key (s : State) (v : Word) : (s.setLcgCell0 v).key = s.key := rfl
@[simp] theorem State.setLcgCell0_pending (s : State) (v : Word) : (s.setLcgCell0 v).pending = s.pending := rfl
@[simp] theorem State.setLcgCell0_delay (s : State) (v : Word) : (s.setLcgCell0 v).delay = s.delay := rfl
@[simp] theorem State.setLcgCell0_seeded (s : State) (v : Word) : (s.setLcgCell0 v).seeded = s.seeded := rfl
@[simp] theorem State.setLcgCell0_err (s : State) (v : Word) : (s.setLcgCell0 v).err = s.err := rfl
@[simp] theorem State.setLcgCell0_arg0 (s : State) (v : Word) : (s.setLcgCell0 v).arg0 = s.arg0 := rfl
@[simp] theorem State.setLcgCell0_arg1 (s : State) (v : Word) : (s.setLcgCell0 v).arg1 = s.arg1 := rfl
@[simp] theorem State.setLcgCell0_result (s : State) (v : Word) : (s.setLcgCell0 v).result = s.result := rfl
@[simp] theorem State.setLcgCell0_lcgCell0 (s : State) (v : Word) : (s.setLcgCell0 v).lcgCell0 = v := rfl
@[simp] theorem State.setLcgCell0_lcgCell1 (s : State) (v : Word) : (s.setLcgCell0 v).lcgCell1 = s.lcgCell1 := rfl
@[simp] theorem State.setLcgCell0_holdrand (s : State) (v : Word) : (s.setLcgCell0 v).holdrand = s.holdrand := rfl
@[simp] theorem State.setLcgCell0_host (s : State) (v : Word) : (s.setLcgCell0 v).host = s.host := rfl
@[simp] theorem State.setLcgCell0_ghost (s : State) (v : Word) :
    (s.setLcgCell0 v).ghost = { s.ghost with lcgCell0 := true } := rfl
@[simp] theorem State.setLcgCell0_busy (s : State) (v : Word) : (s.setLcgCell0 v).busy = s.busy := rfl
@[simp] theorem State.setLcgCell0_keyMax (s : State) (v : Word) : (s.setLcgCell0 v).keyMax = s.keyMax := rfl

/-! ### `setLcgCell1` -/

@[simp] theorem State.setLcgCell1_words (s : State) (v : Word) : (s.setLcgCell1 v).words = s.words := rfl
@[simp] theorem State.setLcgCell1_cursor (s : State) (v : Word) : (s.setLcgCell1 v).cursor = s.cursor := rfl
@[simp] theorem State.setLcgCell1_key (s : State) (v : Word) : (s.setLcgCell1 v).key = s.key := rfl
@[simp] theorem State.setLcgCell1_pending (s : State) (v : Word) : (s.setLcgCell1 v).pending = s.pending := rfl
@[simp] theorem State.setLcgCell1_delay (s : State) (v : Word) : (s.setLcgCell1 v).delay = s.delay := rfl
@[simp] theorem State.setLcgCell1_seeded (s : State) (v : Word) : (s.setLcgCell1 v).seeded = s.seeded := rfl
@[simp] theorem State.setLcgCell1_err (s : State) (v : Word) : (s.setLcgCell1 v).err = s.err := rfl
@[simp] theorem State.setLcgCell1_arg0 (s : State) (v : Word) : (s.setLcgCell1 v).arg0 = s.arg0 := rfl
@[simp] theorem State.setLcgCell1_arg1 (s : State) (v : Word) : (s.setLcgCell1 v).arg1 = s.arg1 := rfl
@[simp] theorem State.setLcgCell1_result (s : State) (v : Word) : (s.setLcgCell1 v).result = s.result := rfl
@[simp] theorem State.setLcgCell1_lcgCell0 (s : State) (v : Word) : (s.setLcgCell1 v).lcgCell0 = s.lcgCell0 := rfl
@[simp] theorem State.setLcgCell1_lcgCell1 (s : State) (v : Word) : (s.setLcgCell1 v).lcgCell1 = v := rfl
@[simp] theorem State.setLcgCell1_holdrand (s : State) (v : Word) : (s.setLcgCell1 v).holdrand = s.holdrand := rfl
@[simp] theorem State.setLcgCell1_host (s : State) (v : Word) : (s.setLcgCell1 v).host = s.host := rfl
@[simp] theorem State.setLcgCell1_ghost (s : State) (v : Word) :
    (s.setLcgCell1 v).ghost = { s.ghost with lcgCell1 := true } := rfl
@[simp] theorem State.setLcgCell1_busy (s : State) (v : Word) : (s.setLcgCell1 v).busy = s.busy := rfl
@[simp] theorem State.setLcgCell1_keyMax (s : State) (v : Word) : (s.setLcgCell1 v).keyMax = s.keyMax := rfl

/-! ### `setHoldrand` -/

@[simp] theorem State.setHoldrand_words (s : State) (v : Word) : (s.setHoldrand v).words = s.words := rfl
@[simp] theorem State.setHoldrand_cursor (s : State) (v : Word) : (s.setHoldrand v).cursor = s.cursor := rfl
@[simp] theorem State.setHoldrand_key (s : State) (v : Word) : (s.setHoldrand v).key = s.key := rfl
@[simp] theorem State.setHoldrand_pending (s : State) (v : Word) : (s.setHoldrand v).pending = s.pending := rfl
@[simp] theorem State.setHoldrand_delay (s : State) (v : Word) : (s.setHoldrand v).delay = s.delay := rfl
@[simp] theorem State.setHoldrand_seeded (s : State) (v : Word) : (s.setHoldrand v).seeded = s.seeded := rfl
@[simp] theorem State.setHoldrand_err (s : State) (v : Word) : (s.setHoldrand v).err = s.err := rfl
@[simp] theorem State.setHoldrand_arg0 (s : State) (v : Word) : (s.setHoldrand v).arg0 = s.arg0 := rfl
@[simp] theorem State.setHoldrand_arg1 (s : State) (v : Word) : (s.setHoldrand v).arg1 = s.arg1 := rfl
@[simp] theorem State.setHoldrand_result (s : State) (v : Word) : (s.setHoldrand v).result = s.result := rfl
@[simp] theorem State.setHoldrand_lcgCell0 (s : State) (v : Word) : (s.setHoldrand v).lcgCell0 = s.lcgCell0 := rfl
@[simp] theorem State.setHoldrand_lcgCell1 (s : State) (v : Word) : (s.setHoldrand v).lcgCell1 = s.lcgCell1 := rfl
@[simp] theorem State.setHoldrand_holdrand (s : State) (v : Word) : (s.setHoldrand v).holdrand = v := rfl
@[simp] theorem State.setHoldrand_host (s : State) (v : Word) : (s.setHoldrand v).host = s.host := rfl
@[simp] theorem State.setHoldrand_ghost (s : State) (v : Word) :
    (s.setHoldrand v).ghost = { s.ghost with holdrand := true } := rfl
@[simp] theorem State.setHoldrand_busy (s : State) (v : Word) : (s.setHoldrand v).busy = s.busy := rfl
@[simp] theorem State.setHoldrand_keyMax (s : State) (v : Word) : (s.setHoldrand v).keyMax = s.keyMax := rfl

/-! ### `setWord` -/

@[simp] theorem State.setWord_words (s : State) (i : Nat) (v : Word) :
    (s.setWord i v).words = setWordAt s.words i v := rfl
@[simp] theorem State.setWord_cursor (s : State) (i : Nat) (v : Word) : (s.setWord i v).cursor = s.cursor := rfl
@[simp] theorem State.setWord_key (s : State) (i : Nat) (v : Word) : (s.setWord i v).key = s.key := rfl
@[simp] theorem State.setWord_pending (s : State) (i : Nat) (v : Word) : (s.setWord i v).pending = s.pending := rfl
@[simp] theorem State.setWord_delay (s : State) (i : Nat) (v : Word) : (s.setWord i v).delay = s.delay := rfl
@[simp] theorem State.setWord_seeded (s : State) (i : Nat) (v : Word) : (s.setWord i v).seeded = s.seeded := rfl
@[simp] theorem State.setWord_err (s : State) (i : Nat) (v : Word) : (s.setWord i v).err = s.err := rfl
@[simp] theorem State.setWord_arg0 (s : State) (i : Nat) (v : Word) : (s.setWord i v).arg0 = s.arg0 := rfl
@[simp] theorem State.setWord_arg1 (s : State) (i : Nat) (v : Word) : (s.setWord i v).arg1 = s.arg1 := rfl
@[simp] theorem State.setWord_result (s : State) (i : Nat) (v : Word) : (s.setWord i v).result = s.result := rfl
@[simp] theorem State.setWord_lcgCell0 (s : State) (i : Nat) (v : Word) : (s.setWord i v).lcgCell0 = s.lcgCell0 := rfl
@[simp] theorem State.setWord_lcgCell1 (s : State) (i : Nat) (v : Word) : (s.setWord i v).lcgCell1 = s.lcgCell1 := rfl
@[simp] theorem State.setWord_holdrand (s : State) (i : Nat) (v : Word) : (s.setWord i v).holdrand = s.holdrand := rfl
@[simp] theorem State.setWord_host (s : State) (i : Nat) (v : Word) : (s.setWord i v).host = s.host := rfl
@[simp] theorem State.setWord_ghost (s : State) (i : Nat) (v : Word) :
    (s.setWord i v).ghost = { s.ghost with words := s.ghost.words.set (i % 624) true (Nat.mod_lt i (by decide)) } := rfl
@[simp] theorem State.setWord_busy (s : State) (i : Nat) (v : Word) : (s.setWord i v).busy = s.busy := rfl
@[simp] theorem State.setWord_keyMax (s : State) (i : Nat) (v : Word) : (s.setWord i v).keyMax = s.keyMax := rfl

/-! ### `setKey` -/

@[simp] theorem State.setKey_words (s : State) (j : Nat) (v : Word) : (s.setKey j v).words = s.words := rfl
@[simp] theorem State.setKey_cursor (s : State) (j : Nat) (v : Word) : (s.setKey j v).cursor = s.cursor := rfl
@[simp] theorem State.setKey_key (s : State) (j : Nat) (v : Word) : (s.setKey j v).key = s.key.set j v := rfl
@[simp] theorem State.setKey_pending (s : State) (j : Nat) (v : Word) : (s.setKey j v).pending = s.pending := rfl
@[simp] theorem State.setKey_delay (s : State) (j : Nat) (v : Word) : (s.setKey j v).delay = s.delay := rfl
@[simp] theorem State.setKey_seeded (s : State) (j : Nat) (v : Word) : (s.setKey j v).seeded = s.seeded := rfl
@[simp] theorem State.setKey_err (s : State) (j : Nat) (v : Word) : (s.setKey j v).err = s.err := rfl
@[simp] theorem State.setKey_arg0 (s : State) (j : Nat) (v : Word) : (s.setKey j v).arg0 = s.arg0 := rfl
@[simp] theorem State.setKey_arg1 (s : State) (j : Nat) (v : Word) : (s.setKey j v).arg1 = s.arg1 := rfl
@[simp] theorem State.setKey_result (s : State) (j : Nat) (v : Word) : (s.setKey j v).result = s.result := rfl
@[simp] theorem State.setKey_lcgCell0 (s : State) (j : Nat) (v : Word) : (s.setKey j v).lcgCell0 = s.lcgCell0 := rfl
@[simp] theorem State.setKey_lcgCell1 (s : State) (j : Nat) (v : Word) : (s.setKey j v).lcgCell1 = s.lcgCell1 := rfl
@[simp] theorem State.setKey_holdrand (s : State) (j : Nat) (v : Word) : (s.setKey j v).holdrand = s.holdrand := rfl
@[simp] theorem State.setKey_host (s : State) (j : Nat) (v : Word) : (s.setKey j v).host = s.host := rfl
@[simp] theorem State.setKey_ghost (s : State) (j : Nat) (v : Word) :
    (s.setKey j v).ghost = { s.ghost with key := s.ghost.key.set j true } := rfl
@[simp] theorem State.setKey_busy (s : State) (j : Nat) (v : Word) : (s.setKey j v).busy = s.busy := rfl
@[simp] theorem State.setKey_keyMax (s : State) (j : Nat) (v : Word) : (s.setKey j v).keyMax = s.keyMax := by
  simp [State.keyMax]

/-! ### `loadTwister` -/

@[simp] theorem State.loadTwister_words (s : State) (w : Words) (c : BitVec 10) : (s.loadTwister w c).words = w := rfl
@[simp] theorem State.loadTwister_cursor (s : State) (w : Words) (c : BitVec 10) :
    (s.loadTwister w c).cursor = c := rfl
@[simp] theorem State.loadTwister_key (s : State) (w : Words) (c : BitVec 10) : (s.loadTwister w c).key = s.key := rfl
@[simp] theorem State.loadTwister_pending (s : State) (w : Words) (c : BitVec 10) :
    (s.loadTwister w c).pending = s.pending := rfl
@[simp] theorem State.loadTwister_delay (s : State) (w : Words) (c : BitVec 10) :
    (s.loadTwister w c).delay = s.delay := rfl
@[simp] theorem State.loadTwister_seeded (s : State) (w : Words) (c : BitVec 10) :
    (s.loadTwister w c).seeded = s.seeded := rfl
@[simp] theorem State.loadTwister_err (s : State) (w : Words) (c : BitVec 10) : (s.loadTwister w c).err = s.err := rfl
@[simp] theorem State.loadTwister_arg0 (s : State) (w : Words) (c : BitVec 10) :
    (s.loadTwister w c).arg0 = s.arg0 := rfl
@[simp] theorem State.loadTwister_arg1 (s : State) (w : Words) (c : BitVec 10) :
    (s.loadTwister w c).arg1 = s.arg1 := rfl
@[simp] theorem State.loadTwister_result (s : State) (w : Words) (c : BitVec 10) :
    (s.loadTwister w c).result = s.result := rfl
@[simp] theorem State.loadTwister_lcgCell0 (s : State) (w : Words) (c : BitVec 10) :
    (s.loadTwister w c).lcgCell0 = s.lcgCell0 := rfl
@[simp] theorem State.loadTwister_lcgCell1 (s : State) (w : Words) (c : BitVec 10) :
    (s.loadTwister w c).lcgCell1 = s.lcgCell1 := rfl
@[simp] theorem State.loadTwister_holdrand (s : State) (w : Words) (c : BitVec 10) :
    (s.loadTwister w c).holdrand = s.holdrand := rfl
@[simp] theorem State.loadTwister_host (s : State) (w : Words) (c : BitVec 10) :
    (s.loadTwister w c).host = s.host := rfl
@[simp] theorem State.loadTwister_ghost (s : State) (w : Words) (c : BitVec 10) :
    (s.loadTwister w c).ghost = { s.ghost with words := Vector.replicate 624 true } := rfl
@[simp] theorem State.loadTwister_busy (s : State) (w : Words) (c : BitVec 10) : (s.loadTwister w c).busy = s.busy := rfl
@[simp] theorem State.loadTwister_keyMax (s : State) (w : Words) (c : BitVec 10) : (s.loadTwister w c).keyMax = s.keyMax := rfl

/-! ### `setCursor` -/

@[simp] theorem State.setCursor_words (s : State) (c : BitVec 10) : (s.setCursor c).words = s.words := rfl
@[simp] theorem State.setCursor_cursor (s : State) (c : BitVec 10) : (s.setCursor c).cursor = c := rfl
@[simp] theorem State.setCursor_key (s : State) (c : BitVec 10) : (s.setCursor c).key = s.key := rfl
@[simp] theorem State.setCursor_pending (s : State) (c : BitVec 10) : (s.setCursor c).pending = s.pending := rfl
@[simp] theorem State.setCursor_delay (s : State) (c : BitVec 10) : (s.setCursor c).delay = s.delay := rfl
@[simp] theorem State.setCursor_seeded (s : State) (c : BitVec 10) : (s.setCursor c).seeded = s.seeded := rfl
@[simp] theorem State.setCursor_err (s : State) (c : BitVec 10) : (s.setCursor c).err = s.err := rfl
@[simp] theorem State.setCursor_arg0 (s : State) (c : BitVec 10) : (s.setCursor c).arg0 = s.arg0 := rfl
@[simp] theorem State.setCursor_arg1 (s : State) (c : BitVec 10) : (s.setCursor c).arg1 = s.arg1 := rfl
@[simp] theorem State.setCursor_result (s : State) (c : BitVec 10) : (s.setCursor c).result = s.result := rfl
@[simp] theorem State.setCursor_lcgCell0 (s : State) (c : BitVec 10) : (s.setCursor c).lcgCell0 = s.lcgCell0 := rfl
@[simp] theorem State.setCursor_lcgCell1 (s : State) (c : BitVec 10) : (s.setCursor c).lcgCell1 = s.lcgCell1 := rfl
@[simp] theorem State.setCursor_holdrand (s : State) (c : BitVec 10) : (s.setCursor c).holdrand = s.holdrand := rfl
@[simp] theorem State.setCursor_host (s : State) (c : BitVec 10) : (s.setCursor c).host = s.host := rfl
@[simp] theorem State.setCursor_ghost (s : State) (c : BitVec 10) : (s.setCursor c).ghost = s.ghost := rfl
@[simp] theorem State.setCursor_busy (s : State) (c : BitVec 10) : (s.setCursor c).busy = s.busy := rfl
@[simp] theorem State.setCursor_keyMax (s : State) (c : BitVec 10) : (s.setCursor c).keyMax = s.keyMax := rfl

/-! ### `setSeeded` -/

@[simp] theorem State.setSeeded_words (s : State) : (s.setSeeded).words = s.words := rfl
@[simp] theorem State.setSeeded_cursor (s : State) : (s.setSeeded).cursor = s.cursor := rfl
@[simp] theorem State.setSeeded_key (s : State) : (s.setSeeded).key = s.key := rfl
@[simp] theorem State.setSeeded_pending (s : State) : (s.setSeeded).pending = s.pending := rfl
@[simp] theorem State.setSeeded_delay (s : State) : (s.setSeeded).delay = s.delay := rfl
@[simp] theorem State.setSeeded_seeded (s : State) : (s.setSeeded).seeded = true := rfl
@[simp] theorem State.setSeeded_err (s : State) : (s.setSeeded).err = s.err := rfl
@[simp] theorem State.setSeeded_arg0 (s : State) : (s.setSeeded).arg0 = s.arg0 := rfl
@[simp] theorem State.setSeeded_arg1 (s : State) : (s.setSeeded).arg1 = s.arg1 := rfl
@[simp] theorem State.setSeeded_result (s : State) : (s.setSeeded).result = s.result := rfl
@[simp] theorem State.setSeeded_lcgCell0 (s : State) : (s.setSeeded).lcgCell0 = s.lcgCell0 := rfl
@[simp] theorem State.setSeeded_lcgCell1 (s : State) : (s.setSeeded).lcgCell1 = s.lcgCell1 := rfl
@[simp] theorem State.setSeeded_holdrand (s : State) : (s.setSeeded).holdrand = s.holdrand := rfl
@[simp] theorem State.setSeeded_host (s : State) : (s.setSeeded).host = s.host := rfl
@[simp] theorem State.setSeeded_ghost (s : State) : (s.setSeeded).ghost = s.ghost := rfl
@[simp] theorem State.setSeeded_busy (s : State) : (s.setSeeded).busy = s.busy := rfl
@[simp] theorem State.setSeeded_keyMax (s : State) : (s.setSeeded).keyMax = s.keyMax := rfl

/-! ### `complete` -/

@[simp] theorem State.complete_words (s : State) : (s.complete).words = s.words := rfl
@[simp] theorem State.complete_cursor (s : State) : (s.complete).cursor = s.cursor := rfl
@[simp] theorem State.complete_key (s : State) : (s.complete).key = s.key := rfl
@[simp] theorem State.complete_pending (s : State) : (s.complete).pending = none := rfl
@[simp] theorem State.complete_delay (s : State) : (s.complete).delay = s.delay := rfl
@[simp] theorem State.complete_seeded (s : State) : (s.complete).seeded = s.seeded := rfl
@[simp] theorem State.complete_err (s : State) : (s.complete).err = .none := rfl
@[simp] theorem State.complete_arg0 (s : State) : (s.complete).arg0 = s.arg0 := rfl
@[simp] theorem State.complete_arg1 (s : State) : (s.complete).arg1 = s.arg1 := rfl
@[simp] theorem State.complete_result (s : State) : (s.complete).result = s.result := rfl
@[simp] theorem State.complete_lcgCell0 (s : State) : (s.complete).lcgCell0 = s.lcgCell0 := rfl
@[simp] theorem State.complete_lcgCell1 (s : State) : (s.complete).lcgCell1 = s.lcgCell1 := rfl
@[simp] theorem State.complete_holdrand (s : State) : (s.complete).holdrand = s.holdrand := rfl
@[simp] theorem State.complete_host (s : State) : (s.complete).host = s.host := rfl
@[simp] theorem State.complete_ghost (s : State) : (s.complete).ghost = s.ghost := rfl
@[simp] theorem State.complete_busy (s : State) : (s.complete).busy = false := rfl
@[simp] theorem State.complete_keyMax (s : State) : (s.complete).keyMax = s.keyMax := rfl

/-! ### `raiseError` -/

@[simp] theorem State.raiseError_words (s : State) (c : ErrCode) : (s.raiseError c).words = s.words := rfl
@[simp] theorem State.raiseError_cursor (s : State) (c : ErrCode) : (s.raiseError c).cursor = s.cursor := rfl
@[simp] theorem State.raiseError_key (s : State) (c : ErrCode) : (s.raiseError c).key = s.key := rfl
@[simp] theorem State.raiseError_pending (s : State) (c : ErrCode) : (s.raiseError c).pending = none := rfl
@[simp] theorem State.raiseError_delay (s : State) (c : ErrCode) : (s.raiseError c).delay = s.delay := rfl
@[simp] theorem State.raiseError_seeded (s : State) (c : ErrCode) : (s.raiseError c).seeded = s.seeded := rfl
@[simp] theorem State.raiseError_err (s : State) (c : ErrCode) : (s.raiseError c).err = c := rfl
@[simp] theorem State.raiseError_arg0 (s : State) (c : ErrCode) : (s.raiseError c).arg0 = s.arg0 := rfl
@[simp] theorem State.raiseError_arg1 (s : State) (c : ErrCode) : (s.raiseError c).arg1 = s.arg1 := rfl
@[simp] theorem State.raiseError_result (s : State) (c : ErrCode) : (s.raiseError c).result = s.result := rfl
@[simp] theorem State.raiseError_lcgCell0 (s : State) (c : ErrCode) : (s.raiseError c).lcgCell0 = s.lcgCell0 := rfl
@[simp] theorem State.raiseError_lcgCell1 (s : State) (c : ErrCode) : (s.raiseError c).lcgCell1 = s.lcgCell1 := rfl
@[simp] theorem State.raiseError_holdrand (s : State) (c : ErrCode) : (s.raiseError c).holdrand = s.holdrand := rfl
@[simp] theorem State.raiseError_host (s : State) (c : ErrCode) : (s.raiseError c).host = s.host := rfl
@[simp] theorem State.raiseError_ghost (s : State) (c : ErrCode) : (s.raiseError c).ghost = s.ghost := rfl
@[simp] theorem State.raiseError_busy (s : State) (c : ErrCode) : (s.raiseError c).busy = false := rfl
@[simp] theorem State.raiseError_keyMax (s : State) (c : ErrCode) : (s.raiseError c).keyMax = s.keyMax := rfl

/-! ### `latchCommand` -/

@[simp] theorem State.latchCommand_words (s : State) (v : Word) : (s.latchCommand v).words = s.words := rfl
@[simp] theorem State.latchCommand_cursor (s : State) (v : Word) : (s.latchCommand v).cursor = s.cursor := rfl
@[simp] theorem State.latchCommand_key (s : State) (v : Word) : (s.latchCommand v).key = s.key := rfl
@[simp] theorem State.latchCommand_pending (s : State) (v : Word) : (s.latchCommand v).pending = some v := rfl
@[simp] theorem State.latchCommand_delay (s : State) (v : Word) :
    (s.latchCommand v).delay = s.host.latencies.headD 0 := rfl
@[simp] theorem State.latchCommand_seeded (s : State) (v : Word) : (s.latchCommand v).seeded = s.seeded := rfl
@[simp] theorem State.latchCommand_err (s : State) (v : Word) : (s.latchCommand v).err = s.err := rfl
@[simp] theorem State.latchCommand_arg0 (s : State) (v : Word) : (s.latchCommand v).arg0 = s.arg0 := rfl
@[simp] theorem State.latchCommand_arg1 (s : State) (v : Word) : (s.latchCommand v).arg1 = s.arg1 := rfl
@[simp] theorem State.latchCommand_result (s : State) (v : Word) : (s.latchCommand v).result = s.result := rfl
@[simp] theorem State.latchCommand_lcgCell0 (s : State) (v : Word) : (s.latchCommand v).lcgCell0 = s.lcgCell0 := rfl
@[simp] theorem State.latchCommand_lcgCell1 (s : State) (v : Word) : (s.latchCommand v).lcgCell1 = s.lcgCell1 := rfl
@[simp] theorem State.latchCommand_holdrand (s : State) (v : Word) : (s.latchCommand v).holdrand = s.holdrand := rfl
@[simp] theorem State.latchCommand_host (s : State) (v : Word) :
    (s.latchCommand v).host = { s.host with latencies := s.host.latencies.tail } := rfl
@[simp] theorem State.latchCommand_ghost (s : State) (v : Word) : (s.latchCommand v).ghost = s.ghost := rfl
@[simp] theorem State.latchCommand_busy (s : State) (v : Word) : (s.latchCommand v).busy = true := rfl
@[simp] theorem State.latchCommand_keyMax (s : State) (v : Word) : (s.latchCommand v).keyMax = s.keyMax := rfl

/-! ### `observe` -/

@[simp] theorem State.observe_words (s : State) (v : Word) : (s.observe v).words = s.words := rfl
@[simp] theorem State.observe_cursor (s : State) (v : Word) : (s.observe v).cursor = s.cursor := rfl
@[simp] theorem State.observe_key (s : State) (v : Word) : (s.observe v).key = s.key := rfl
@[simp] theorem State.observe_pending (s : State) (v : Word) : (s.observe v).pending = s.pending := rfl
@[simp] theorem State.observe_delay (s : State) (v : Word) : (s.observe v).delay = s.delay := rfl
@[simp] theorem State.observe_seeded (s : State) (v : Word) : (s.observe v).seeded = s.seeded := rfl
@[simp] theorem State.observe_err (s : State) (v : Word) : (s.observe v).err = s.err := rfl
@[simp] theorem State.observe_arg0 (s : State) (v : Word) : (s.observe v).arg0 = s.arg0 := rfl
@[simp] theorem State.observe_arg1 (s : State) (v : Word) : (s.observe v).arg1 = s.arg1 := rfl
@[simp] theorem State.observe_result (s : State) (v : Word) : (s.observe v).result = s.result := rfl
@[simp] theorem State.observe_lcgCell0 (s : State) (v : Word) : (s.observe v).lcgCell0 = s.lcgCell0 := rfl
@[simp] theorem State.observe_lcgCell1 (s : State) (v : Word) : (s.observe v).lcgCell1 = s.lcgCell1 := rfl
@[simp] theorem State.observe_holdrand (s : State) (v : Word) : (s.observe v).holdrand = s.holdrand := rfl
@[simp] theorem State.observe_host (s : State) (v : Word) :
    (s.observe v).host = { s.host with observed := v :: s.host.observed } := rfl
@[simp] theorem State.observe_ghost (s : State) (v : Word) : (s.observe v).ghost = s.ghost := rfl
@[simp] theorem State.observe_busy (s : State) (v : Word) : (s.observe v).busy = s.busy := rfl
@[simp] theorem State.observe_keyMax (s : State) (v : Word) : (s.observe v).keyMax = s.keyMax := rfl

/-! ### `pushOp` -/

@[simp] theorem State.pushOp_words (s : State) (op : HostOp) : (s.pushOp op).words = s.words := rfl
@[simp] theorem State.pushOp_cursor (s : State) (op : HostOp) : (s.pushOp op).cursor = s.cursor := rfl
@[simp] theorem State.pushOp_key (s : State) (op : HostOp) : (s.pushOp op).key = s.key := rfl
@[simp] theorem State.pushOp_pending (s : State) (op : HostOp) : (s.pushOp op).pending = s.pending := rfl
@[simp] theorem State.pushOp_delay (s : State) (op : HostOp) : (s.pushOp op).delay = s.delay := rfl
@[simp] theorem State.pushOp_seeded (s : State) (op : HostOp) : (s.pushOp op).seeded = s.seeded := rfl
@[simp] theorem State.pushOp_err (s : State) (op : HostOp) : (s.pushOp op).err = s.err := rfl
@[simp] theorem State.pushOp_arg0 (s : State) (op : HostOp) : (s.pushOp op).arg0 = s.arg0 := rfl
@[simp] theorem State.pushOp_arg1 (s : State) (op : HostOp) : (s.pushOp op).arg1 = s.arg1 := rfl
@[simp] theorem State.pushOp_result (s : State) (op : HostOp) : (s.pushOp op).result = s.result := rfl
@[simp] theorem State.pushOp_lcgCell0 (s : State) (op : HostOp) : (s.pushOp op).lcgCell0 = s.lcgCell0 := rfl
@[simp] theorem State.pushOp_lcgCell1 (s : State) (op : HostOp) : (s.pushOp op).lcgCell1 = s.lcgCell1 := rfl
@[simp] theorem State.pushOp_holdrand (s : State) (op : HostOp) : (s.pushOp op).holdrand = s.holdrand := rfl
@[simp] theorem State.pushOp_host (s : State) (op : HostOp) :
    (s.pushOp op).host = { s.host with ops := op :: s.host.ops } := rfl
@[simp] theorem State.pushOp_ghost (s : State) (op : HostOp) : (s.pushOp op).ghost = s.ghost := rfl
@[simp] theorem State.pushOp_busy (s : State) (op : HostOp) : (s.pushOp op).busy = s.busy := rfl
@[simp] theorem State.pushOp_keyMax (s : State) (op : HostOp) : (s.pushOp op).keyMax = s.keyMax := rfl

/-! ### `dropOp` -/

@[simp] theorem State.dropOp_words (s : State) : (s.dropOp).words = s.words := rfl
@[simp] theorem State.dropOp_cursor (s : State) : (s.dropOp).cursor = s.cursor := rfl
@[simp] theorem State.dropOp_key (s : State) : (s.dropOp).key = s.key := rfl
@[simp] theorem State.dropOp_pending (s : State) : (s.dropOp).pending = s.pending := rfl
@[simp] theorem State.dropOp_delay (s : State) : (s.dropOp).delay = s.delay := rfl
@[simp] theorem State.dropOp_seeded (s : State) : (s.dropOp).seeded = s.seeded := rfl
@[simp] theorem State.dropOp_err (s : State) : (s.dropOp).err = s.err := rfl
@[simp] theorem State.dropOp_arg0 (s : State) : (s.dropOp).arg0 = s.arg0 := rfl
@[simp] theorem State.dropOp_arg1 (s : State) : (s.dropOp).arg1 = s.arg1 := rfl
@[simp] theorem State.dropOp_result (s : State) : (s.dropOp).result = s.result := rfl
@[simp] theorem State.dropOp_lcgCell0 (s : State) : (s.dropOp).lcgCell0 = s.lcgCell0 := rfl
@[simp] theorem State.dropOp_lcgCell1 (s : State) : (s.dropOp).lcgCell1 = s.lcgCell1 := rfl
@[simp] theorem State.dropOp_holdrand (s : State) : (s.dropOp).holdrand = s.holdrand := rfl
@[simp] theorem State.dropOp_host (s : State) : (s.dropOp).host = { s.host with ops := s.host.ops.tail } := rfl
@[simp] theorem State.dropOp_ghost (s : State) : (s.dropOp).ghost = s.ghost := rfl
@[simp] theorem State.dropOp_busy (s : State) : (s.dropOp).busy = s.busy := rfl
@[simp] theorem State.dropOp_keyMax (s : State) : (s.dropOp).keyMax = s.keyMax := rfl

/-! ### `passTurn` -/

@[simp] theorem State.passTurn_words (s : State) : (s.passTurn).words = s.words := rfl
@[simp] theorem State.passTurn_cursor (s : State) : (s.passTurn).cursor = s.cursor := rfl
@[simp] theorem State.passTurn_key (s : State) : (s.passTurn).key = s.key := rfl
@[simp] theorem State.passTurn_pending (s : State) : (s.passTurn).pending = s.pending := rfl
@[simp] theorem State.passTurn_delay (s : State) : (s.passTurn).delay = s.delay - 1 := rfl
@[simp] theorem State.passTurn_seeded (s : State) : (s.passTurn).seeded = s.seeded := rfl
@[simp] theorem State.passTurn_err (s : State) : (s.passTurn).err = s.err := rfl
@[simp] theorem State.passTurn_arg0 (s : State) : (s.passTurn).arg0 = s.arg0 := rfl
@[simp] theorem State.passTurn_arg1 (s : State) : (s.passTurn).arg1 = s.arg1 := rfl
@[simp] theorem State.passTurn_result (s : State) : (s.passTurn).result = s.result := rfl
@[simp] theorem State.passTurn_lcgCell0 (s : State) : (s.passTurn).lcgCell0 = s.lcgCell0 := rfl
@[simp] theorem State.passTurn_lcgCell1 (s : State) : (s.passTurn).lcgCell1 = s.lcgCell1 := rfl
@[simp] theorem State.passTurn_holdrand (s : State) : (s.passTurn).holdrand = s.holdrand := rfl
@[simp] theorem State.passTurn_host (s : State) : (s.passTurn).host = s.host := rfl
@[simp] theorem State.passTurn_ghost (s : State) : (s.passTurn).ghost = s.ghost := rfl
@[simp] theorem State.passTurn_busy (s : State) : (s.passTurn).busy = s.busy := rfl
@[simp] theorem State.passTurn_keyMax (s : State) : (s.passTurn).keyMax = s.keyMax := rfl

/-! ### `illegalCommand` and `resetBlock` -/

/-- An illegal command word raises ILLEGAL through the one operation that raises errors. -/
@[simp] theorem State.illegalCommand_eq (s : State) : s.illegalCommand = s.raiseError .illegal := rfl

@[simp] theorem State.resetBlock_words (s : State) : s.resetBlock.words = Vector.replicate 624 0 := rfl
@[simp] theorem State.resetBlock_cursor (s : State) : s.resetBlock.cursor = 624#10 := rfl
@[simp] theorem State.resetBlock_key (s : State) : s.resetBlock.key = List.replicate s.keyMax 0 := rfl
@[simp] theorem State.resetBlock_pending (s : State) : s.resetBlock.pending = none := rfl
@[simp] theorem State.resetBlock_delay (s : State) : s.resetBlock.delay = 0 := rfl
@[simp] theorem State.resetBlock_seeded (s : State) : s.resetBlock.seeded = false := rfl
@[simp] theorem State.resetBlock_err (s : State) : s.resetBlock.err = .none := rfl
@[simp] theorem State.resetBlock_arg0 (s : State) : s.resetBlock.arg0 = 0#32 := rfl
@[simp] theorem State.resetBlock_arg1 (s : State) : s.resetBlock.arg1 = 0#32 := rfl
@[simp] theorem State.resetBlock_result (s : State) : s.resetBlock.result = 0#32 := rfl
@[simp] theorem State.resetBlock_lcgCell0 (s : State) : s.resetBlock.lcgCell0 = 0#32 := rfl
@[simp] theorem State.resetBlock_lcgCell1 (s : State) : s.resetBlock.lcgCell1 = 0#32 := rfl
@[simp] theorem State.resetBlock_holdrand (s : State) : s.resetBlock.holdrand = 0#32 := rfl
@[simp] theorem State.resetBlock_host (s : State) : s.resetBlock.host = s.host := rfl
@[simp] theorem State.resetBlock_ghost (s : State) :
    s.resetBlock.ghost = { Ghost.fresh s.keyMax with unspecifiedRead := s.ghost.unspecifiedRead } := rfl
@[simp] theorem State.resetBlock_busy (s : State) : s.resetBlock.busy = false := rfl
@[simp] theorem State.resetBlock_keyMax (s : State) : s.resetBlock.keyMax = s.keyMax := by
  simp [State.keyMax]

end Sys2Proof.Machine
end

