-- ==== Sys2Proof/Laws/Words.lean ====
section
/-! SUPPORT. Reading and writing the state vector and the key buffer, and the loops that walk over the vector. -/

namespace Sys2Proof.Machine

/-! ### Elements of the vector -/

theorem wordAt_of_lt {w : Words} {i : Nat} (h : i < 624) : wordAt w i = w[i] := by
  simp [wordAt, Nat.mod_eq_of_lt h]

theorem wordAt_mod (w : Words) (i : Nat) : wordAt w (i % 624) = wordAt w i := by
  simp [wordAt]

theorem wordAt_setWordAt (w : Words) (i k : Nat) (v : Word) :
    wordAt (setWordAt w i v) k = if k % 624 = i % 624 then v else wordAt w k := by
  unfold wordAt setWordAt
  rw [Vector.getElem_set]
  simp only [eq_comm]

@[simp] theorem wordAt_setWordAt_same (w : Words) (i : Nat) (v : Word) : wordAt (setWordAt w i v) i = v := by
  simp [wordAt_setWordAt]

/-- A write to one element leaves every other element alone. -/
theorem wordAt_setWordAt_ne {w : Words} {i k : Nat} (v : Word) (hi : i < 624) (hk : k < 624) (h : k ≠ i) :
    wordAt (setWordAt w i v) k = wordAt w k := by
  rw [wordAt_setWordAt, Nat.mod_eq_of_lt hi, Nat.mod_eq_of_lt hk, if_neg h]

/-- Two vectors with the same elements are the same vector. -/
theorem words_ext {w w' : Words} (h : ∀ k, k < 624 → wordAt w k = wordAt w' k) : w = w' := by
  apply Vector.ext
  intro k hk
  rw [← wordAt_of_lt hk, ← wordAt_of_lt hk]
  exact h k hk

/-! ### Loops -/

@[simp] theorem forFrom_zero {α : Type} (f : Nat → α → α) (i : Nat) (a : α) : forFrom f 0 i a = a := rfl

theorem forFrom_succ {α : Type} (f : Nat → α → α) (n i : Nat) (a : α) :
    forFrom f (n + 1) i a = forFrom f n (i + 1) (f i a) := rfl

/-- The last iteration comes last. -/
theorem forFrom_succ_last {α : Type} (f : Nat → α → α) (n i : Nat) (a : α) :
    forFrom f (n + 1) i a = f (i + n) (forFrom f n i a) := by
  induction n generalizing i a with
  | zero => rfl
  | succ n ih => rw [forFrom_succ, ih, forFrom_succ]; congr 1; omega

/-- What holds before a loop and is kept by each iteration holds after it; `P m` is what holds after `m`
iterations. -/
theorem forFrom_induct {α : Type} {f : Nat → α → α} {i n : Nat} {a : α} (P : Nat → α → Prop) (start : P 0 a)
    (each : ∀ m b, m < n → P m b → P (m + 1) (f (i + m) b)) : P n (forFrom f n i a) := by
  induction n with
  | zero => exact start
  | succ n ih =>
    rw [forFrom_succ_last]
    exact each n _ n.lt_succ_self (ih fun m b hm => each m b (Nat.lt_succ_of_lt hm))

/-! ### The key buffer -/

theorem keyAt_set (key : List Word) (i j : Nat) (v : Word) (hi : i < key.length) :
    keyAt (key.set i v) j = if j = i then v else keyAt key j := by
  unfold keyAt
  by_cases h : j = i
  · subst h; simp [List.getD_eq_getElem?_getD, hi]
  · simp [List.getD_eq_getElem?_getD, h, List.getElem?_set_ne (Ne.symm h)]

end Sys2Proof.Machine
end

