-- ==== Sys2Proof/Laws/Ops.lean ====
section
/-! SUPPORT. Everything that a step, a host turn and each command can do, said once: later proofs cite these and do
not unfold the definitions. -/

namespace Sys2Proof.Machine

/-! ### Operand checks, on all 32 bits (44_state_access.md R140) -/

@[simp] theorem wordIndexOk_iff (s : State) : s.wordIndexOk = true ↔ s.arg0.toNat ≤ 623 := by simp [State.wordIndexOk]
@[simp] theorem cursorOk_iff (s : State) : s.cursorOk = true ↔ s.arg0.toNat ≤ 624 := by simp [State.cursorOk]
@[simp] theorem keyIndexOk_iff (s : State) : s.keyIndexOk = true ↔ s.arg0.toNat < s.keyMax := by simp [State.keyIndexOk]
@[simp] theorem keyLengthOk_iff (s : State) : s.keyLengthOk = true ↔ s.arg0.toNat ≤ s.keyMax := by simp [State.keyLengthOk]

/-! ### Commands: each either completes or raises RANGE -/

theorem execLcgNext_reserved (s : State) : execLcgNext .reserved s = .next (s.raiseError .illegal) := rfl

theorem execLcgNext_of_ne {c : CellSel} (h : c ≠ .reserved) (s : State) :
    execLcgNext c s =
      .next (((s.noteRead (s.cellDefined c)).setCell c (lcg31 (s.cell c))).setResult (lcg31 (s.cell c))).complete := by
  simp [execLcgNext, h]

theorem execMtSeedArray_of_le {s : State} (h : s.arg0.toNat ≤ s.keyMax) :
    execMtSeedArray s =
      .next ((((s.noteRead (s.ghost.arg0 && s.keyPrefixDefined s.arg0.toNat)).loadTwister
        (seedFromKey s.key s.arg0.toNat s.words) 624#10).setSeeded).complete) := by
  simp [execMtSeedArray, h]

theorem execMtSeedArray_of_gt {s : State} (h : s.keyMax < s.arg0.toNat) :
    execMtSeedArray s = .next ((s.noteRead s.ghost.arg0).raiseError .range) := by
  rw [execMtSeedArray, if_neg]
  simpa using h

theorem execMtWordRead_of_le {s : State} (h : s.arg0.toNat ≤ 623) :
    execMtWordRead s =
      .next (((s.noteRead (s.ghost.arg0 && s.wordDefined s.arg0.toNat)).setResult
        (wordAt s.words s.arg0.toNat)).complete) := by
  simp [execMtWordRead, h]

theorem execMtWordRead_of_gt {s : State} (h : 623 < s.arg0.toNat) :
    execMtWordRead s = .next ((s.noteRead s.ghost.arg0).raiseError .range) := by
  rw [execMtWordRead, if_neg]
  simpa using h

theorem execMtWordWrite_of_le {s : State} (h : s.arg0.toNat ≤ 623) :
    execMtWordWrite s =
      .next (((s.noteRead (s.ghost.arg0 && s.ghost.arg1)).setWord s.arg0.toNat s.arg1).complete) := by
  simp [execMtWordWrite, h]

theorem execMtWordWrite_of_gt {s : State} (h : 623 < s.arg0.toNat) :
    execMtWordWrite s = .next ((s.noteRead s.ghost.arg0).raiseError .range) := by
  rw [execMtWordWrite, if_neg]
  simpa using h

theorem execMtCursorWrite_of_le {s : State} (h : s.arg0.toNat ≤ 624) :
    execMtCursorWrite s =
      .next ((((s.noteRead s.ghost.arg0).setCursor (s.arg0.extractLsb' 0 10)).setSeeded).complete) := by
  simp [execMtCursorWrite, h]

theorem execMtCursorWrite_of_gt {s : State} (h : 624 < s.arg0.toNat) :
    execMtCursorWrite s = .next ((s.noteRead s.ghost.arg0).raiseError .range) := by
  rw [execMtCursorWrite, if_neg]
  simpa using h

theorem execKeyWrite_of_lt {s : State} (h : s.arg0.toNat < s.keyMax) :
    execKeyWrite s =
      .next (((s.noteRead (s.ghost.arg0 && s.ghost.arg1)).setKey s.arg0.toNat s.arg1).complete) := by
  simp [execKeyWrite, h]

theorem execKeyWrite_of_ge {s : State} (h : s.keyMax ≤ s.arg0.toNat) :
    execKeyWrite s = .next ((s.noteRead s.ghost.arg0).raiseError .range) := by
  rw [execKeyWrite, if_neg]
  simpa using h

theorem execKeyRead_of_lt {s : State} (h : s.arg0.toNat < s.keyMax) :
    execKeyRead s =
      .next (((s.noteRead (s.ghost.arg0 && s.keyDefined s.arg0.toNat)).setResult
        (keyAt s.key s.arg0.toNat)).complete) := by
  simp [execKeyRead, h]

theorem execKeyRead_of_ge {s : State} (h : s.keyMax ≤ s.arg0.toNat) :
    execKeyRead s = .next ((s.noteRead s.ghost.arg0).raiseError .range) := by
  rw [execKeyRead, if_neg]
  simpa using h

/-! ### MT_NEXT -/

theorem regenerate_of_lt {s : State} (h : s.cursor.toNat < 624) : s.regenerate = s := by
  simp [State.regenerate, h]

theorem regenerate_of_ge {s : State} (h : 624 ≤ s.cursor.toNat) :
    s.regenerate = (s.noteRead s.allWordsDefined).loadTwister (twist s.words) 0#10 := by
  simp [State.regenerate, h]

/-! ### Steps and host turns -/

@[simp] theorem passTurn_of_delay_zero {s : State} (h : s.delay = 0) : s.passTurn = s := by
  cases s; simp_all [State.passTurn]

/-- A due command: its word, if the latch holds one and no host turn is left before it. -/
theorem readyCommand_eq_some {s : State} {w : Word} :
    s.readyCommand = some w ↔ s.delay = 0 ∧ s.pending = some w := by
  unfold State.readyCommand
  split <;> simp_all

theorem step_of_ready {s : State} {w : Word} (hp : s.pending = some w) (hd : s.delay = 0) :
    step s = runCommand w s := by
  simp [step, State.readyCommand, hp, hd]

theorem step_of_not_ready {s : State} (h : s.readyCommand = none) : step s = hostTurn s.passTurn := by
  simp [step, h]

/-- Everything a host turn can do. -/
theorem hostTurn_cases {s t : State} (h : hostTurn s = .next t) :
    (s.host.ops = [] ∧ t = s)
    ∨ (∃ slot v rest, s.host.ops = .write slot v :: rest ∧ s.busy = false ∧ t = s.dropOp.writeReg (portReg slot) v)
    ∨ (∃ slot rest, s.host.ops = .read slot :: rest ∧ (s.busy = true → portReg slot = .status)
        ∧ t = (s.dropOp.noteRead (s.dropOp.regDefined (portReg slot))).observe (s.dropOp.regValue (portReg slot)))
    ∨ (∃ rest, s.host.ops = .poll :: rest ∧ t = pollOnce s.dropOp)
    ∨ (∃ rest, s.host.ops = .reset :: rest ∧ t = s.dropOp.resetBlock) := by
  unfold hostTurn at h
  split at h
  next hops => exact .inl ⟨hops, by simpa using h.symm⟩
  next op rest hops =>
    right
    cases op with
    | write slot v =>
      simp only [hostAct, portWrite] at h
      split at h
      · cases h
      next hb => exact .inl ⟨slot, v, rest, hops, by simpa using hb, by simpa using h.symm⟩
    | read slot =>
      simp only [hostAct, portRead] at h
      split at h
      · cases h
      next hb => exact .inr (.inl ⟨slot, rest, hops, by simpa using hb, by simpa using h.symm⟩)
    | poll => exact .inr (.inr (.inl ⟨rest, hops, by simpa [hostAct] using h.symm⟩))
    | reset => exact .inr (.inr (.inr ⟨rest, hops, by simpa [hostAct] using h.symm⟩))

/-- Everything a step can do: execute a due command, raise ILLEGAL for a due word that does not decode, or give the
host its turn. -/
theorem step_cases {s t : State} (h : step s = .next t) :
    (∃ w i, s.pending = some w ∧ s.delay = 0 ∧ decode w = .ok i ∧ exec i s = .next t)
    ∨ (∃ w e, s.pending = some w ∧ s.delay = 0 ∧ decode w = .error e ∧ t = s.raiseError .illegal)
    ∨ (s.readyCommand = none ∧ hostTurn s.passTurn = .next t) := by
  cases hr : s.readyCommand with
  | none => exact .inr (.inr ⟨rfl, by rwa [step_of_not_ready hr] at h⟩)
  | some w =>
    obtain ⟨hd, hp⟩ := readyCommand_eq_some.mp hr
    rw [step_of_ready hp hd] at h
    unfold runCommand at h
    split at h
    next i hi => exact .inl ⟨w, i, hp, hd, hi, h⟩
    next e he => exact .inr (.inl ⟨w, e, hp, hd, he, by simpa using h.symm⟩)

/-- A run whose first step answers a next state goes on from it. -/
theorem run_succ_of_next {M : Host.Core} {s t : M.State} (n : Nat) (h : M.step s = .next t) :
    M.run (n + 1) s = M.run n t := by
  rw [Host.Core.run, h]

/-- The same of this machine. -/
theorem core_run_succ {s t : State} (n : Nat) (h : step s = .next t) :
    Host.Core.run Sys2Proof.core (n + 1) s = Host.Core.run Sys2Proof.core n t :=
  run_succ_of_next (M := Sys2Proof.core) n h

end Sys2Proof.Machine
end

