-- ==== Sys2Proof/Laws/Commands.lean ====
section
/-! SUPPORT. What every command keeps, said once for all of them. -/

namespace Sys2Proof.Machine

theorem next_inj {a b : State} (h : (Host.Outcome.next a : Out) = .next b) : a = b := by injection h

/-- MT_NEXT with a cursor below 624 draws. -/
theorem execMtNext_of_lt {s t : State} (hc : s.cursor.toNat < 624) (h : exec .mtNext s = .next t) :
    t = s.draw.complete := by
  have := next_inj h
  rw [regenerate_of_lt hc] at this
  exact this.symm

/-- MT_NEXT with an exhausted vector twists, then draws. -/
theorem execMtNext_of_ge {s t : State} (hc : 624 ≤ s.cursor.toNat) (h : exec .mtNext s = .next t) :
    t = ((s.noteRead s.allWordsDefined).loadTwister (twist s.words) 0#10).draw.complete := by
  have := next_inj h
  rw [regenerate_of_ge hc] at this
  exact this.symm

/-- What a command keeps: the host's side, KEY_MAX, the shape of the ghost bits, a cursor in range, SEEDED once set;
and which command alone writes HOLDRAND, writes KEY and sets SEEDED. After any command nothing is pending. -/
theorem exec_keeps {i : Instr} {s t : State} (h : exec i s = .next t) :
    t.delay = s.delay ∧ t.host = s.host ∧ t.pending = none ∧ t.keyMax = s.keyMax
    ∧ (s.ghost.key.length = s.keyMax → t.ghost.key.length = t.keyMax)
    ∧ (s.cursor.toNat ≤ 624 → t.cursor.toNat ≤ 624)
    ∧ (t.holdrand ≠ s.holdrand → i = .bootstrap) ∧ (t.key ≠ s.key → i = .keyWrite)
    ∧ (s.seeded = true → t.seeded = true)
    ∧ (s.seeded = false → t.seeded = true →
        t.err = .none ∧ (i = .mtSeedScalar ∨ i = .mtSeedArray ∨ i = .bootstrap ∨ i = .mtCursorWrite)) := by
  cases i with
  | lcgNext c =>
    cases c <;> (rw [← next_inj h]; simp [State.setCell])
  | mtNext =>
    by_cases hc : s.cursor.toNat < 624
    · rw [execMtNext_of_lt hc h]; simp [State.draw]; omega
    · rw [execMtNext_of_ge (by omega) h]; simp [State.draw]
  | mtSeedScalar => rw [← next_inj h]; simp
  | bootstrap => rw [← next_inj h]; simp
  | mtCursorRead => rw [← next_inj h]; simp
  | mtCursorWrite =>
    by_cases hc : s.arg0.toNat ≤ 624
    · have e : exec .mtCursorWrite s = _ := execMtCursorWrite_of_le hc
      rw [e] at h; rw [← next_inj h]; simp [BitVec.extractLsb'_toNat]; omega
    · have e : exec .mtCursorWrite s = _ := execMtCursorWrite_of_gt (by omega)
      rw [e] at h; rw [← next_inj h]; simp
  | keyWrite =>
    simp only [exec, execKeyWrite] at h
    split at h <;> (rw [← next_inj h]; simp [State.keyMax])
  | _ =>
    simp only [exec, execMtSeedArray, execMtWordRead, execMtWordWrite, execKeyRead] at h
    split at h <;> (rw [← next_inj h]; simp)

end Sys2Proof.Machine
end

