-- ==== Sys2Proof/Laws/Passes.lean ====
section
/-! SUPPORT. What the seeding and twist passes leave, said once: later proofs cite these and unfold no pass. -/

namespace Sys2Proof.Machine

/-! ### Scalar seeding -/

/-- `seedScalar` leaves the vector of the recurrence (41_mt_seeding.md R90). -/
theorem seedScalar_isScalarSeed (v : Word) (w : Words) : IsScalarSeed v (seedScalar v w) := by
  unfold seedScalar
  have := forFrom_induct (f := seedScalarStep) (i := 1) (n := 623) (a := setWordAt w 0 v)
    (fun m b => wordAt b 0 = v
      ∧ ∀ i, 1 ≤ i → i ≤ m → wordAt b i = 1812433253#32 * mix30 (wordAt b (i - 1)) + u32 i)
    (by simp; intros; omega)
    (by
      rintro m b hm ⟨h0, h⟩
      unfold seedScalarStep
      refine ⟨by rw [wordAt_setWordAt_ne _ (by omega) (by omega) (by omega)]; exact h0, ?_⟩
      intro i h1 h2
      by_cases hi : i = 1 + m
      · subst hi
        rw [wordAt_setWordAt_same, wordAt_setWordAt_ne _ (by omega) (by omega) (by omega)]
      · rw [wordAt_setWordAt_ne _ (by omega) (by omega) hi, wordAt_setWordAt_ne _ (by omega) (by omega) (by omega)]
        exact h i h1 (by omega))
  exact ⟨this.1, fun i h1 h2 => this.2 i h1 h2⟩

/-- The recurrence has one solution for each seed. -/
theorem isScalarSeed_unique {v : Word} {w w' : Words} (h : IsScalarSeed v w) (h' : IsScalarSeed v w') : w = w' := by
  apply words_ext
  intro k hk
  induction k with
  | zero => rw [h.1, h'.1]
  | succ k ih =>
    rw [h.2 (k + 1) (by omega) (by omega), h'.2 (k + 1) (by omega) (by omega)]
    simp only [Nat.add_sub_cancel, ih (by omega)]

/-- What the vector was before plays no part. -/
theorem seedScalar_congr (v : Word) (w w' : Words) : seedScalar v w = seedScalar v w' :=
  isScalarSeed_unique (seedScalar_isScalarSeed v w) (seedScalar_isScalarSeed v w')

/-! ### Array seeding -/

/-- Step `n` of pass 1: where it works, where it leaves the indices, and what it stores (R92, R94, R97). -/
theorem seedPass1Step_spec (key : List Word) (L : Nat) (p : SeedPass) (n : Nat)
    (hi : p.i = 1 + n % 623) (hj : p.j = n % L) (hL : 1 ≤ L) :
    let q := seedPass1Step key L p
    q.i = 1 + (n+1) % 623 ∧ q.j = (n+1) % L ∧
    IsSeedStep (1 + n % 623)
      ((wordAt p.words (1 + n % 623) ^^^ (mix30 (wordAt p.words (n % 623)) * 1664525#32))
        + keyAt key (n % L) + u32 (n % L)) p.words q.words := by
  intro q
  have h1 : n % 623 < 623 := Nat.mod_lt _ (by omega)
  have h2 : n % L < L := Nat.mod_lt _ hL
  have hjn : (if L ≤ n % L + 1 then 0 else n % L + 1) = (n+1) % L := by
    by_cases h : L = 1
    · subst h; simp; omega
    · have e : (n + 1) % L = (n % L + 1) % L := by rw [Nat.add_mod, Nat.mod_eq_of_lt (a := 1) (by omega)]
      rw [e]
      split
      · have : n % L + 1 = L := by omega
        rw [this, Nat.mod_self]
      · rw [Nat.mod_eq_of_lt (a := n % L + 1) (by omega)]
  simp only [q, seedPass1Step, hi, hj, Nat.add_sub_cancel_left]
  unfold SeedPass.advanceKey SeedPass.advance
  rw [← hjn]
  simp only
  by_cases hw : 624 ≤ 1 + n % 623 + 1
  · simp only [hw, if_true]
    split
    · refine ⟨by simp only; omega, rfl, ?_⟩
      intro k hk
      have : n % 623 = 622 := by omega
      simp only [this]
      rw [wordAt_setWordAt]
      by_cases hk0 : k = 0
      · subst hk0; simp
      · rw [if_neg (by omega), wordAt_setWordAt]
        simp [hk0, Nat.mod_eq_of_lt hk]
    · refine ⟨by simp only; omega, rfl, ?_⟩
      intro k hk
      have : n % 623 = 622 := by omega
      simp only [this]
      rw [wordAt_setWordAt]
      by_cases hk0 : k = 0
      · subst hk0; simp
      · rw [if_neg (by omega), wordAt_setWordAt]
        simp [hk0, Nat.mod_eq_of_lt hk]
  · simp only [hw, if_false]
    split
    · refine ⟨by simp only; omega, rfl, ?_⟩
      intro k hk
      simp only
      rw [wordAt_setWordAt, Nat.mod_eq_of_lt hk, Nat.mod_eq_of_lt (show 1 + n % 623 < 624 by omega)]
      have : ¬ (k = 0 ∧ 1 + n % 623 = 623) := by omega
      simp [this]
    · refine ⟨by simp only; omega, rfl, ?_⟩
      intro k hk
      simp only
      rw [wordAt_setWordAt, Nat.mod_eq_of_lt hk, Nat.mod_eq_of_lt (show 1 + n % 623 < 624 by omega)]
      have : ¬ (k = 0 ∧ 1 + n % 623 = 623) := by omega
      simp [this]

/-- Step `n` of pass 2, counted from the index where pass 1 stands at 1 (R92, R94, R95). -/
theorem seedPass2Step_spec (p : SeedPass) (n : Nat) (hi : p.i = 1 + n % 623) :
    let q := seedPass2Step p
    q.i = 1 + (n+1) % 623 ∧
    IsSeedStep (1 + n % 623)
      ((wordAt p.words (1 + n % 623) ^^^ (mix30 (wordAt p.words (n % 623)) * 1566083941#32))
        - u32 (1 + n % 623)) p.words q.words := by
  intro q
  have h1 : n % 623 < 623 := Nat.mod_lt _ (by omega)
  simp only [q, seedPass2Step, hi, Nat.add_sub_cancel_left]
  unfold SeedPass.advance
  simp only
  by_cases hw : 624 ≤ 1 + n % 623 + 1
  · simp only [hw, if_true]
    refine ⟨by omega, ?_⟩
    intro k hk
    have : n % 623 = 622 := by omega
    simp only [this]
    rw [wordAt_setWordAt]
    by_cases hk0 : k = 0
    · subst hk0; simp
    · rw [if_neg (by omega), wordAt_setWordAt]
      simp [hk0, Nat.mod_eq_of_lt hk]
  · simp only [hw, if_false]
    refine ⟨by omega, ?_⟩
    intro k hk
    rw [wordAt_setWordAt, Nat.mod_eq_of_lt hk, Nat.mod_eq_of_lt (show 1 + n % 623 < 624 by omega)]
    have : ¬ (k = 0 ∧ 1 + n % 623 = 623) := by omega
    simp [this]

/-- `seedArray` leaves the vector of the two passes (R92). -/
theorem seedArray_isArraySeed (key : List Word) (L : Nat) (w : Words) (hL : 1 ≤ L) :
    IsArraySeed key L (seedArray key L w) := by
  let st : SeedPass := { words := seedScalar 19650218#32 w, i := 1, j := 0 }
  have i1 : ∀ n, ((seedPass1Step key L)^[n] st).i = 1 + n % 623 ∧ ((seedPass1Step key L)^[n] st).j = n % L := by
    intro n
    induction n with
    | zero => exact ⟨rfl, (Nat.zero_mod L).symm⟩
    | succ n ih =>
      rw [Function.iterate_succ_apply']
      have := seedPass1Step_spec key L _ n ih.1 ih.2 hL
      exact ⟨this.1, this.2.1⟩
  have i2 : ∀ n, (seedPass2Step^[n] ((seedPass1Step key L)^[max 624 L] st)).i = 1 + (max 624 L + n) % 623 := by
    intro n
    induction n with
    | zero => exact (i1 _).1
    | succ n ih =>
      rw [Function.iterate_succ_apply']
      exact (seedPass2Step_spec _ _ ih).1
  refine ⟨fun n => ((seedPass1Step key L)^[n] st).words,
    fun n => (seedPass2Step^[n] ((seedPass1Step key L)^[max 624 L] st)).words,
    seedScalar_isScalarSeed _ _, ?_, rfl, ?_, ?_⟩
  · intro n hn i j
    simp only [Function.iterate_succ_apply']
    have := (seedPass1Step_spec key L _ n (i1 n).1 (i1 n).2 hL).2.2
    simpa only [i, j, Nat.add_sub_cancel_left, mix30] using this
  · intro n hn i
    simp only [Function.iterate_succ_apply']
    have := (seedPass2Step_spec _ (max 624 L + n) (i2 n)).2
    simpa only [i, Nat.add_sub_cancel_left, mix30] using this
  · intro k hk
    unfold seedArray
    show wordAt (setWordAt _ _ _) k = _
    rw [wordAt_setWordAt, Nat.mod_eq_of_lt hk]

/-! ### The twist -/

/-- The index after 623 is 0. -/
theorem wordAt_zero_eq (b : Words) : wordAt b 0 = wordAt b (623 + 1) := by
  have := wordAt_mod b (623 + 1)
  rw [show (623 + 1) % 624 = 0 by omega] at this
  exact this

/-- `twist` leaves the twist of the vector, element by element (42_mt_generation.md R112, R118). -/
theorem twist_isTwist (w : Words) : IsTwist w (twist w) := by
  have := forFrom_induct (f := twistStep) (i := 0) (n := 624) (a := w)
    (fun m b => (∀ i, i < m → wordAt b i = (if i < 227 then wordAt w (i + 397) else wordAt b (i - 227))
          ^^^ twistShift (twistJoin (wordAt w i) (if i < 623 then wordAt w (i + 1) else wordAt b 0)))
      ∧ ∀ k, m ≤ k → k < 624 → wordAt b k = wordAt w k)
    (by simp)
    (by
      rintro m b hm ⟨h, h0⟩
      unfold twistStep
      simp only [Nat.zero_add]
      constructor
      · intro i hi
        by_cases him : i = m
        · subst him
          rw [wordAt_setWordAt_same]
          have e1 : wordAt b i = wordAt w i := h0 i (le_refl _) hm
          have e2 : ∀ x, (if i < 623 then wordAt w (i + 1) else wordAt (setWordAt b i x) 0) = wordAt b (i + 1) := by
            intro x
            split
            · exact (h0 (i+1) (by omega) (by omega)).symm
            · have hi6 : i = 623 := by omega
              rw [wordAt_setWordAt_ne _ (by omega) (by omega) (by omega), hi6]
              exact wordAt_zero_eq b
          have e3 : ∀ x, (if i < 227 then wordAt w (i + 397) else wordAt (setWordAt b i x) (i - 227))
              = wordAt b (i + 397) := by
            intro x
            split
            · exact (h0 (i+397) (by omega) (by omega)).symm
            · rw [wordAt_setWordAt_ne _ (by omega) (by omega) (by omega), ← wordAt_mod b (i + 397),
                show (i + 397) % 624 = i - 227 by omega]
          rw [e2, e3, e1]
        · rw [wordAt_setWordAt_ne _ (by omega) (by omega) him, h i (by omega)]
          congr 1
          · split
            · rfl
            · rw [wordAt_setWordAt_ne _ (by omega) (by omega) (by omega)]
          · rw [if_pos (by omega), if_pos (by omega)]
      · intro k h1 h2
        rw [wordAt_setWordAt_ne _ (by omega) (by omega) (by omega)]
        exact h0 k (by omega) h2)
  intro i hi
  have h := this.1 i hi
  simp only [twistShift, twistJoin] at h
  simp only
  unfold twist
  rw [h]
  simp only [BitVec.xor_assoc]
  rfl

end Sys2Proof.Machine
end

