-- ==== Sys2Proof/Laws/PerInstr.lean ====
section
/-! SUPPORT. One statement for every command, as syntax: the fields of its command word. -/

namespace Sys2Proof.Laws.OpcodeField

/-- The command word of `i` holds the opcode of `i` in OP and its cell in CELL, and RSV is 0 (30_encoding.md R60
to R64). -/
def Statement (i : Instr) : Prop :=
  opField (encode i) = i.opcode ∧ cellField (encode i) = i.cellCode ∧ rsvField (encode i) = 0

theorem lcgNext (cell : CellSel) : Statement (.lcgNext cell) := by cases cell <;> unfold Statement <;> decide
theorem mtSeedScalar : Statement .mtSeedScalar := by unfold Statement; decide
theorem mtSeedArray : Statement .mtSeedArray := by unfold Statement; decide
theorem mtNext : Statement .mtNext := by unfold Statement; decide
theorem bootstrap : Statement .bootstrap := by unfold Statement; decide
theorem mtWordRead : Statement .mtWordRead := by unfold Statement; decide
theorem mtWordWrite : Statement .mtWordWrite := by unfold Statement; decide
theorem mtCursorRead : Statement .mtCursorRead := by unfold Statement; decide
theorem mtCursorWrite : Statement .mtCursorWrite := by unfold Statement; decide
theorem keyWrite : Statement .keyWrite := by unfold Statement; decide
theorem keyRead : Statement .keyRead := by unfold Statement; decide

end Sys2Proof.Laws.OpcodeField
end

