-- ==== Sys2Proof/Tests/Slice0.lean ====
section
/-! SUPPORT. Tests: each expected value is the spec's own (the word tables of 30_encoding.md, the vectors of
95_test_vectors.md, named in the comments), and a witness for each obligation that has hypotheses. -/

namespace Sys2Proof.Tests

open Sys2Proof.Machine

/-! ### Small states -/

/-- An idle block with a key buffer of 4 words, the operands given. -/
def idle (a0 a1 : Word) : State := { State.resetWith 4 with arg0 := a0, arg1 := a1 }

/-- The same, with the command word `w` due. -/
def due (w : Word) (a0 a1 : Word) : State := (idle a0 a1).withFetchWord 32 w.toNat

/-- The state that an outcome answers, for the tests that look at it. -/
def got (o : Out) : State :=
  match o with
  | .next t => t
  | .fault _ => State.reset
  | .refused _ => State.reset

/-- The outcome is a next state. -/
def isNext (o : Out) : Bool :=
  match o with
  | .next _ => true
  | .fault _ => false
  | .refused _ => false

/-- The command word `w` raises the error code `c`, and what it could have written is as before. -/
def onlyRaises (c : ErrCode) (w a0 a1 : Word) : Bool :=
  let t := got (step (due w a0 a1))
  t.err == c && !t.busy && t.arg0 == a0 && t.arg1 == a1 && t.result == 0 && t.key == [0, 0, 0, 0] && t.cursor == 624
    && !t.seeded && wordAt t.words 0 == 0 && t.lcgCell0 == 0 && t.holdrand == 0

/-! ### WellFormed: each check refuses an ill-formed term -/

theorem test_wf_refuses_reserved_cell : Instr.wf (.lcgNext .reserved) = false := by decide

theorem test_wf_accepts_the_other_cells :
    Instr.wf (.lcgNext .arg0) = true ∧ Instr.wf (.lcgNext .lcgCell0) = true ∧ Instr.wf (.lcgNext .lcgCell1) = true := by
  decide

/-! ### Decoding: words written out from 30_encoding.md R64, in the order RSV, CELL, OP -/

theorem test_decode_lcg_next :
    decode (0b0000000000000000000000_00_00000001#32) = .ok (.lcgNext .arg0)
    ∧ decode (0b0000000000000000000000_01_00000001#32) = .ok (.lcgNext .lcgCell0)
    ∧ decode (0b0000000000000000000000_10_00000001#32) = .ok (.lcgNext .lcgCell1) := by decide
theorem test_decode_mt_seed_scalar : decode (0b0000000000000000000000_00_00000010#32) = .ok .mtSeedScalar := by decide
theorem test_decode_mt_seed_array : decode (0b0000000000000000000000_00_00000011#32) = .ok .mtSeedArray := by decide
theorem test_decode_mt_next : decode (0b0000000000000000000000_00_00000100#32) = .ok .mtNext := by decide
theorem test_decode_bootstrap : decode (0b0000000000000000000000_00_00000101#32) = .ok .bootstrap := by decide
theorem test_decode_mt_word_read : decode (0b0000000000000000000000_00_00000110#32) = .ok .mtWordRead := by decide
theorem test_decode_mt_word_write : decode (0b0000000000000000000000_00_00000111#32) = .ok .mtWordWrite := by decide
theorem test_decode_mt_cursor_read : decode (0b0000000000000000000000_00_00001000#32) = .ok .mtCursorRead := by decide
theorem test_decode_mt_cursor_write : decode (0b0000000000000000000000_00_00001001#32) = .ok .mtCursorWrite := by decide
theorem test_decode_key_write : decode (0b0000000000000000000000_00_00001010#32) = .ok .keyWrite := by decide
theorem test_decode_key_read : decode (0b0000000000000000000000_00_00001011#32) = .ok .keyRead := by decide

/-- V-ERR-1 to V-ERR-7, and one word for each check of R65. -/
theorem test_decode_refuses_illegal_words :
    decode 0x00000000#32 = .error .badOpcode ∧ decode 0x0000000C#32 = .error .badOpcode
    ∧ decode 0x000000FF#32 = .error .badOpcode ∧ decode 0x00000400#32 = .error .reservedBits
    ∧ decode 0x80000004#32 = .error .reservedBits ∧ decode 0x00000301#32 = .error .reservedCell
    ∧ decode 0x00000102#32 = .error .strayCell ∧ decode 0x0000020B#32 = .error .strayCell := by decide

theorem test_table_word_reads_the_word_itself :
    decodeTableWord 32 0x00000201 = some (.lcgNext .lcgCell1) ∧ decodeTableWord 32 0x0000000A = some .keyWrite
    ∧ decodeTableWord 32 0x00000301 = none := by decide

/-! ### The step runs each row's command as the first after reset -/

theorem test_every_row_runs_from_reset :
    (List.range 11).all (fun k => isNext (step (State.reset.withFetchWord 32 (k + 1)))) = true := by decide +kernel

/-- With nothing placed, a step from reset leaves the state (20_memory.md R50). -/
theorem test_idle_reset_stays : step State.reset = .next State.reset := by rfl

/-! ### The LCG: V-LCG-2 and V-LCG-3 -/

theorem test_lcg31_nonnegative :
    lcg31 0x00003E41#32 = 0x435BFD76#32 ∧ lcg31 1#32 = 0x2C4856AD#32 ∧ lcg31 0x7FFFFFFE#32 = 0x53B7A952#32
    ∧ lcg31 0x7FFFFFFF#32 = 0#32 := by decide +kernel

theorem test_lcg31_negative :
    lcg31 0xFFFFFFFF#32 = 0x53B7A952#32 ∧ lcg31 0x80000000#32 = 0x53B7A954#32 ∧ lcg31 0x80000001#32 = 0#32
    ∧ lcg31 0xABC6AAD0#32 = 0x80000000#32 := by decide +kernel

/-- V-LCG-3: the selected cell and RESULT take the new seed, and the other cells keep theirs. -/
theorem test_lcg_next_steps_cell1 :
    let t := got (execLcgNext .lcgCell1 { idle 1 0 with lcgCell0 := 15937, lcgCell1 := 7 })
    t.lcgCell1 = 0x35FA5EBD#32 ∧ t.result = 0x35FA5EBD#32 ∧ t.lcgCell0 = 15937#32 ∧ t.arg0 = 1#32 := by
  decide +kernel

/-- V-ERR-6. -/
theorem test_lcg_next_reserved_cell : onlyRaises .illegal 0x00000301#32 1 0 = true := by decide +kernel

/-! ### Seeding: V-SS-1, L1-3, R98 -/

/-- V-SS-1, the row of 5489. -/
theorem test_seed_scalar_5489 (w : Words) :
    wordAt (seedScalar 5489#32 w) 0 = 0x00001571#32 ∧ wordAt (seedScalar 5489#32 w) 1 = 0x4D98EE96#32
    ∧ wordAt (seedScalar 5489#32 w) 2 = 0xAF25F095#32 := by
  obtain ⟨h0, h⟩ := seedScalar_isScalarSeed 5489#32 w
  have h1 : wordAt (seedScalar 5489#32 w) 1 = 0x4D98EE96#32 := by
    rw [h 1 (by decide) (by decide), h0]; decide
  refine ⟨h0.trans (by decide), h1, ?_⟩
  rw [h 2 (by decide) (by decide), h1]; decide

/-- L1-3: MT_SEED_ARRAY with L = 0 leaves 0, 1, 0x6C078967. -/
theorem test_seed_array_empty_key :
    let w := (got (execMtSeedArray (idle 0 0))).words
    wordAt w 0 = 0x00000000#32 ∧ wordAt w 1 = 0x00000001#32 ∧ wordAt w 2 = 0x6C078967#32 := by
  intro w
  obtain ⟨h0, h⟩ := seedScalar_isScalarSeed 0#32 (idle 0 0).words
  have h1 : wordAt (seedScalar 0#32 (idle 0 0).words) 1 = 1#32 := by
    rw [h 1 (by decide) (by decide), h0]; decide
  exact ⟨h0, h1, by show wordAt (seedScalar 0#32 (idle 0 0).words) 2 = _; rw [h 2 (by decide) (by decide), h1]; decide⟩

/-- The first step of pass 1 for the key of V-SA-1, whose baseline begins 0x012BD6AA, 0x82D2AB13 (V-SS-1): by hand,
(0x82D2AB13 ^ ((0x012BD6AA ^ 0) * 1664525)) + 0x123 + 0 = 0xFF890AD4. -/
theorem test_seed_pass1_first_step :
    let p := seedPass1Step [0x123#32, 0x234#32, 0x345#32, 0x456#32] 4
      { words := setWordAt (setWordAt (Vector.replicate 624 0) 0 0x012BD6AA#32) 1 0x82D2AB13#32, i := 1, j := 0 }
    wordAt p.words 1 = 0xFF890AD4#32 ∧ p.i = 2 ∧ p.j = 1 := by decide +kernel

/-- R92, R94: on reaching 624 the last word is copied to the first and the index goes back to 1. -/
theorem test_seed_pass_wraps :
    let p := seedPass2Step { words := Vector.replicate 624 0, i := 623, j := 3 }
    wordAt p.words 0 = 0xFFFFFD91#32 ∧ wordAt p.words 623 = 0xFFFFFD91#32 ∧ p.i = 1 ∧ p.j = 3 := by decide +kernel

/-- V-ERR-12, with KEY_MAX = 4. -/
theorem test_seed_array_range : onlyRaises .range 0x00000003#32 5 0 = true := by decide +kernel

/-! ### Generation: V-TM-1, V-TW-1, V-TW-2 -/

theorem test_temper :
    temper 0x9B0AFA27#32 = 3499211612#32 ∧ temper 0x12345678#32 = 0x2B7E4A2D#32 ∧ temper 0xFFFFFFFF#32 = 0x6FE01BF8#32
    ∧ temper 0x00000800#32 = 0x04440990#32 := by decide

/-- V-TW-1: the first new word of the seed-5489 vector, from words 0, 1 and 397 of V-SS-1. -/
theorem test_twist_first_word (w : Words) (h0 : wordAt w 0 = 0x00001571#32) (h1 : wordAt w 1 = 0x4D98EE96#32)
    (h397 : wordAt w 397 = 0xBDC68D6C#32) : wordAt (twist w) 0 = 0x9B0AFA27#32 := by
  rw [twist_isTwist w 0 (by decide)]
  simp only [show (0 : Nat) < 623 by decide, show (0 : Nat) < 227 by decide, if_true, Nat.zero_add, h0, h1, h397]
  decide

/-- V-TW-2: with words[1] = 1 alone, the new words[227] reads the new words[0]. -/
theorem test_twist_reads_new_words :
    let w := twistStep 227 (twistStep 0 (setWordAt (Vector.replicate 624 0) 1 1#32))
    wordAt w 0 = 0x9908B0DF#32 ∧ wordAt w 227 = 0x9908B0DF#32 := by decide +kernel

/-- V-ST-8 and V-MT-1: from cursor 0 the first word is tempered without a twist. -/
theorem test_mt_next_draws :
    let t := got (execMtNext { idle 0 0 with words := setWordAt (Vector.replicate 624 0) 0 0x9B0AFA27#32, cursor := 0 })
    t.result = 3499211612#32 ∧ t.cursor = 1#10 ∧ wordAt t.words 0 = 0x9B0AFA27#32 := by decide +kernel

/-- L1-7: an exhausted vector is twisted, and the tempered new words[0] returned with the cursor at 1. -/
theorem test_mt_next_regenerates (s : State) (h : s.cursor = 624#10) (h0 : wordAt s.words 0 = 0x00001571#32)
    (h1 : wordAt s.words 1 = 0x4D98EE96#32) (h397 : wordAt s.words 397 = 0xBDC68D6C#32) :
    (got (execMtNext s)).result = 3499211612#32 ∧ (got (execMtNext s)).cursor = 1#10 := by
  have e : execMtNext s = .next ((s.noteRead s.allWordsDefined).loadTwister (twist s.words) 0#10).draw.complete := by
    rw [execMtNext, regenerate_of_ge (by rw [h]; decide)]
  rw [e]
  refine ⟨?_, by simp [got, State.draw]⟩
  show temper (wordAt (twist s.words) 0) = _
  rw [test_twist_first_word s.words h0 h1 h397]
  decide

/-! ### Bootstrap: V-BT-1 to V-BT-14 -/

theorem test_fold_time :
    foldTime 0x00000000#32 = 0x00000001#32 ∧ foldTime 0x7FFFFFFD#32 = 0x7FFFFFFE#32
    ∧ foldTime 0x7FFFFFFE#32 = 0x00000001#32 ∧ foldTime 0xFFFFFFFB#32 = 0x7FFFFFFE#32
    ∧ foldTime 0xFFFFFFFC#32 = 0x00000001#32 ∧ foldTime 0xFFFFFFFF#32 = 0x00000004#32
    ∧ foldTime 0xDEADBEEF#32 = 0x5EADBEF2#32 := by decide

/-- V-BT-14. -/
theorem test_bootstrap_from_reset :
    let t := got (execBootstrap (State.reset.setArg0 0x12345678#32))
    t.statusWord = 0x00000002#32 ∧ t.lcgCell0 = 0x00003E41#32 ∧ t.lcgCell1 = 0x12345679#32 ∧ t.holdrand = 0x0023CACE#32
    ∧ t.cursor = 624#10 ∧ t.arg0 = 0x12345678#32 := by decide +kernel

/-! ### State access: V-ST-4, V-ST-6, V-ST-7, V-ERR-8 to V-ERR-16 (with KEY_MAX = 4) -/

theorem test_word_write_then_read :
    let t := got (execMtWordWrite (idle 5 0xDEADBEEF))
    wordAt t.words 5 = 0xDEADBEEF#32 ∧ (got (execMtWordRead t)).result = 0xDEADBEEF#32 ∧ t.seeded = false := by
  decide +kernel

theorem test_word_access_range :
    onlyRaises .range 0x00000006#32 624 0 = true ∧ onlyRaises .range 0x00000006#32 0xFFFFFFFF 0 = true
    ∧ onlyRaises .range 0x00000007#32 624 9 = true := by decide +kernel

theorem test_cursor_read : (got (execMtCursorRead (idle 0 0))).result = 624#32 := by decide +kernel

theorem test_cursor_write_bounds :
    (got (execMtCursorWrite (idle 624 0))).statusWord = 0x00000002#32
    ∧ onlyRaises .range 0x00000009#32 625 0 = true := by decide +kernel

theorem test_key_write_then_read :
    (got (execKeyWrite (idle 3 7))).key = [0#32, 0#32, 0#32, 7#32]
    ∧ (got (execKeyRead (got (execKeyWrite (idle 3 7))))).result = 7#32 := by decide +kernel

theorem test_key_access_range :
    onlyRaises .range 0x0000000A#32 4 9 = true ∧ onlyRaises .range 0x0000000B#32 4 0 = true := by decide +kernel

/-- V-ERR-15: ILLEGAL wins over RANGE; V-ERR-5: RSV is checked before anything else. -/
theorem test_illegal_wins :
    onlyRaises .illegal 0x00000106#32 624 0 = true ∧ onlyRaises .illegal 0x80000004#32 0 0 = true := by decide +kernel

/-! ### The port, reset and the host's turn -/

/-- 10_state.md R24: BUSY, SEEDED, ERR in their places. -/
theorem test_status_word :
    (due 0x00000004#32 0 0).statusWord = 0x00000001#32
    ∧ ({ idle 0 0 with seeded := true, err := .range }).statusWord = 0x00000022#32
    ∧ ({ idle 0 0 with err := .illegal }).statusWord = 0x00000010#32 := by decide +kernel

/-- R23, R30, R22: CMD and the reserved slots read 0; the next test: STATUS and RESULT ignore writes. -/
theorem test_port_slots :
    (got (portRead 0 (idle 5 0))).host.observed = [0#32] ∧ (got (portRead 2 (idle 5 0))).host.observed = [5#32]
    ∧ (got (portRead 8 (idle 5 0))).host.observed = [0#32] := by decide +kernel

theorem test_port_ignored_writes :
    portWrite 4 9#32 (idle 5 0) = .next (idle 5 0) ∧ portWrite 1 9#32 (idle 5 0) = .next (idle 5 0) := ⟨rfl, rfl⟩

/-- 70_reset_and_hazards.md R180: reset drops a pending command. -/
theorem test_reset_drops_command :
    let s := { due 0x00000005#32 0 0 with delay := 3, host := { ops := [.reset], latencies := [], observed := [] } }
    (got (step s)).pending = none ∧ (got (step s)).holdrand = 0#32 ∧ (got (step s)).cursor = 624#10 := by decide +kernel

/-- 30_encoding.md R70 to R72: one line of each kind, and a refused line. -/
theorem test_assembler :
    assemble ["wr ARG0, 0x12345678 ; time".toList, "rd r4".toList, "poll".toList]
      = .ok [.write 2 0x12345678#32, .read 4, .poll]
    ∧ assemble ["mt.next".toList] = .ok [.write 0 4#32, .poll, .read 4]
    ∧ assemble ["poll".toList, "mt.seed".toList] = .error 2 := by decide +kernel

/-! ### Witnesses: for each obligation with hypotheses, a state and operands that meet them all -/

theorem witness_DecodeExactlyInvertsEncode :
    Instr.wf (.lcgNext .lcgCell1) = true ∧ encode (.lcgNext .lcgCell1) = 0x00000201#32
    ∧ Instr.wf .keyRead = true ∧ encode .keyRead = 0x0000000B#32 := by decide

/-- Each of the five conditions at a boundary value, and the legal words beside them. -/
theorem witness_IllegalWordOnlyRaisesIllegal :
    ((due 0x0000000C#32 0 0).pending = some 0x0000000C#32 ∧ (due 0x0000000C#32 0 0).delay = 0)
    ∧ IllegalWord 0x00000000#32 ∧ IllegalWord 0x0000000C#32 ∧ IllegalWord 0x00000404#32 ∧ IllegalWord 0x00000301#32
    ∧ IllegalWord 0x00000102#32
    ∧ ((due 0x0000000B#32 0 0).pending = some 0x0000000B#32 ∧ (due 0x0000000B#32 0 0).delay = 0)
    ∧ ¬ IllegalWord 0x0000000B#32 ∧ ¬ IllegalWord 0x00000201#32 ∧ ¬ IllegalWord 0x00000001#32 := by
  refine ⟨⟨rfl, rfl⟩, ?_, ?_, ?_, ?_, ?_, ⟨rfl, rfl⟩, ?_, ?_, ?_⟩ <;> unfold IllegalWord <;> decide

theorem witness_IllegalArisesExactlyUnderFiveConditions :
    (due 0x00000301#32 0 0).pending = some 0x00000301#32 ∧ (due 0x00000301#32 0 0).delay = 0 := ⟨rfl, rfl⟩

theorem witness_StepRunsTheDecodedCommand :
    (due 0x00000004#32 0 0).pending = some 0x00000004#32 ∧ (due 0x00000004#32 0 0).delay = 0
    ∧ decode 0x00000004#32 = .ok .mtNext := ⟨rfl, rfl, by decide⟩

theorem witness_LcgIsExactOnNonNegativeSeeds : 0 ≤ sint32 0x00000000#32 ∧ 0 ≤ sint32 0x7FFFFFFF#32 := by decide

/-- A seed for each of the two cases of σ, at the ends of the range. -/
theorem witness_LcgOnNegativeSeeds :
    sint32 0xFFFFFFFF#32 < 0
    ∧ 0 ≤ sint32 0xFFFFFFFF#32 * 742938285 % 2 ^ 31 + sint32 0xFFFFFFFF#32 * 742938285 / 2 ^ 31
    ∧ sint32 0x80000000#32 < 0
    ∧ sint32 0x80000000#32 * 742938285 % 2 ^ 31 + sint32 0x80000000#32 * 742938285 / 2 ^ 31 < 0
    ∧ sint32 0xABC6AAD0#32 * 742938285 % 2 ^ 31 + sint32 0xABC6AAD0#32 * 742938285 / 2 ^ 31 = -1 := by decide +kernel

theorem witness_LcgStallsAndNeverStalls :
    (1 ≤ (1#32).toNat ∧ (1#32).toNat ≤ 0x7FFFFFFE) ∧ (1 ≤ (0x7FFFFFFE#32).toNat ∧ (0x7FFFFFFE#32).toNat ≤ 0x7FFFFFFE)
    ∧ CellSel.lcgCell0 ≠ .reserved := by decide

theorem witness_LcgNextStepsTheSelectedCell :
    CellSel.arg0 ≠ .reserved ∧ CellSel.lcgCell0 ≠ .reserved ∧ CellSel.lcgCell1 ≠ .reserved := by decide

theorem witness_LcgAndTwisterAreIndependent :
    (∃ t, exec (.lcgNext .lcgCell1) (idle 1 0) = .next t)
    ∧ (∀ c, Instr.mtWordRead ≠ .lcgNext c) ∧ Instr.mtWordRead ≠ .bootstrap
    ∧ ∃ t, exec .mtWordRead (idle 623 0) = .next t :=
  ⟨⟨_, rfl⟩, fun _ => by simp, by decide, ⟨_, execMtWordRead_of_le (by decide)⟩⟩

/-- Both ends of the range of key lengths for the first clause, 0 for the second, KEY_MAX + 1 for the third. -/
theorem witness_SeedArrayFollowsBothPasses :
    (1 ≤ (idle 1 0).arg0.toNat ∧ (idle 1 0).arg0.toNat ≤ (idle 1 0).keyMax)
    ∧ (1 ≤ (idle 4 0).arg0.toNat ∧ (idle 4 0).arg0.toNat ≤ (idle 4 0).keyMax)
    ∧ (idle 0 0).arg0.toNat = 0 ∧ (idle 5 0).keyMax < (idle 5 0).arg0.toNat := by decide
theorem witness_SeedArrayForcesWordZero :
    1 ≤ (idle 4 0).arg0.toNat ∧ (idle 4 0).arg0.toNat ≤ (idle 4 0).keyMax := by decide

theorem witness_EmptyKeySeedsLikeScalarZero : (idle 0 0).arg0 = 0#32 := rfl

theorem witness_SeedingNeverLeavesTheZeroVector :
    (∃ t, exec .mtSeedScalar (idle 0 0) = .next t ∧ t.err = .none)
    ∧ (∃ t, exec .mtSeedArray (idle 4 0) = .next t ∧ t.err = .none)
    ∧ ∃ t, exec .bootstrap (idle 0 0) = .next t ∧ t.err = .none :=
  ⟨⟨_, rfl, rfl⟩, ⟨_, execMtSeedArray_of_le (by decide), rfl⟩, ⟨_, rfl, rfl⟩⟩

/-! Runs of MT_NEXT commands. -/

/-- The states of repeated MT_NEXT commands from `s`. -/
def drawsFrom (s : State) (k : Nat) : State := (fun u : State => u.regenerate.draw.complete)^[k] s

theorem draws_drawsFrom (s : State) : Draws (drawsFrom s) := by
  intro k
  unfold drawsFrom
  rw [Function.iterate_succ_apply']
  rfl

/-- Two states that differ in the vector and in KEY above L, with the same operand, each with a run after it. -/
theorem witness_SeedingDependsOnlyOnItsOperands :
    let s₁ := idle 1 0
    let s₂ := (idle 1 0).setWord 7 9#32 |>.setKey 3 9#32
    s₁.arg0 = s₂.arg0 ∧ s₁.arg0.toNat ≤ s₁.keyMax ∧ s₂.arg0.toNat ≤ s₂.keyMax
    ∧ (∀ j, j < s₁.arg0.toNat → keyAt s₁.key j = keyAt s₂.key j)
    ∧ (∃ t₁ t₂, exec .mtSeedArray s₁ = .next t₁ ∧ exec .mtSeedArray s₂ = .next t₂
      ∧ ∃ f g : Nat → State, f 0 = t₁ ∧ g 0 = t₂ ∧ Draws f ∧ Draws g) := by
  refine ⟨rfl, by decide, by decide, by decide, _, _, execMtSeedArray_of_le (by decide),
    execMtSeedArray_of_le (by decide), drawsFrom _, drawsFrom _, rfl, rfl, draws_drawsFrom _, draws_drawsFrom _⟩

/-- Cursor 0 and 623 for the first clause, 624 for the second. -/
theorem witness_MtNextRegeneratesAndDraws :
    ((idle 0 0).setCursor 0#10).cursor.toNat < 624 ∧ ((idle 0 0).setCursor 623#10).cursor.toNat < 624
    ∧ 624 ≤ (idle 0 0).cursor.toNat ∧ ∃ t, exec .mtNext (idle 0 0) = .next t :=
  ⟨by decide, by decide, by decide, _, rfl⟩

theorem witness_OutputSequenceAfterSeeding :
    Draws (drawsFrom (idle 0 0)) ∧ (drawsFrom (idle 0 0) 0).cursor = 624#10
    ∧ (∃ t, exec .mtSeedArray (idle 4 0) = .next t ∧ t.err = .none) :=
  ⟨draws_drawsFrom _, rfl, _, execMtSeedArray_of_le (by decide), rfl⟩

theorem witness_MtNextIgnoresSeeded : (idle 0 0).seeded = false := rfl

theorem witness_TwistKeepsNonDegenerate :
    NonDegenerate (setWordAt (Vector.replicate 624 0) 0 0x80000000#32)
    ∧ NonDegenerate (setWordAt (Vector.replicate 624 0) 623 1#32) :=
  ⟨.inl (by decide +kernel), .inr ⟨623, by decide, by decide, by decide +kernel⟩⟩

theorem witness_TwistIgnoresLowBitsOfWordZero :
    let w : Words := Vector.replicate 624 0
    (0x7FFFFFFF#32 &&& 0x80000000#32) = (wordAt w 0 &&& 0x80000000#32) := by decide +kernel

theorem witness_ZeroVectorDrawsZeroForever :
    Draws (drawsFrom (idle 0 0)) ∧ AllZero (drawsFrom (idle 0 0) 0).words := by
  refine ⟨draws_drawsFrom _, fun k hk => ?_⟩
  rw [wordAt_of_lt hk]
  show (Vector.replicate 624 (0 : Word))[k] = _
  simp

/-- Two runs from states with one twister and different operands. -/
theorem witness_TwisterStateDeterminesAllOutputs :
    Draws (drawsFrom (idle 0 0)) ∧ Draws (drawsFrom (idle 1 2))
    ∧ (drawsFrom (idle 0 0) 0).words = (drawsFrom (idle 1 2) 0).words
    ∧ (drawsFrom (idle 0 0) 0).cursor = (drawsFrom (idle 1 2) 0).cursor :=
  ⟨draws_drawsFrom _, draws_drawsFrom _, rfl, rfl⟩

theorem witness_RepeatedBootstrapActsInFull :
    (∃ t, exec .bootstrap (idle 5 0) = .next t) ∧ (idle 5 0).arg0 = (idle 5 7).arg0 := ⟨⟨_, rfl⟩, rfl⟩

/-- For SeedingDependsOnlyOnItsOperands, the commands without a key. -/
theorem witness_SeedingDependsOnlyOnItsOperands_keyless :
    (idle 5 0).arg0 = (idle 5 7).arg0 ∧ ∃ t₁ t₂, exec .bootstrap (idle 5 0) = .next t₁ ∧ exec .bootstrap (idle 5 7) = .next t₂
      ∧ ∃ f g : Nat → State, f 0 = t₁ ∧ g 0 = t₂ ∧ Draws f ∧ Draws g :=
  ⟨rfl, _, _, rfl, rfl, drawsFrom _, drawsFrom _, rfl, rfl, draws_drawsFrom _, draws_drawsFrom _⟩

/-- The last index in range and the first one out of it, for WordReadReturnsTheElement and
WordWriteStoresOneElement. -/
theorem witness_WordReadReturnsTheElement : (idle 623 0).arg0.toNat ≤ 623 ∧ 623 < (idle 624 0).arg0.toNat := by decide
theorem witness_WordWriteStoresOneElement :
    (idle 623 0).arg0.toNat = (⟨623, by decide⟩ : Fin 624).val ∧ 623 < (idle 624 0).arg0.toNat := by decide

theorem witness_CursorWriteSetsCursorAndSeeded :
    (idle 624 0).arg0.toNat ≤ 624 ∧ 624 < (idle 625 0).arg0.toNat := by decide

/-- The same for KEY, with KEY_MAX = 4. -/
theorem witness_KeyWriteStoresOneEntry :
    1 ≤ (idle 3 0).keyMax ∧ (idle 3 0).arg0.toNat ≤ (idle 3 0).keyMax - 1
    ∧ (idle 4 0).arg0.toNat > (idle 4 0).keyMax - 1 := by decide
theorem witness_KeyReadReturnsTheEntry :
    1 ≤ (idle 0 0).keyMax ∧ (idle 0 0).arg0.toNat ≤ (idle 0 0).keyMax - 1
    ∧ (idle 4 0).arg0.toNat > (idle 4 0).keyMax - 1 := by decide

/-! A snapshot and a restore. -/

/-- The states of a snapshot: before each read the host writes its index to ARG0. -/
def snapshotFrom (s : State) : Nat → State
  | 0 => s
  | k + 1 => got (execMtWordRead ((snapshotFrom s k).setArg0 (u32 k)))

/-- The states of a restore of `ws`. -/
def restoreFrom (ws : Words) (s : State) : Nat → State
  | 0 => s
  | k + 1 => got (execMtWordWrite (((restoreFrom ws s k).setArg0 (u32 k)).setArg1 (wordAt ws k)))

theorem u32_toNat_le {k : Nat} (h : k < 624) : (u32 k).toNat ≤ 623 := by
  rw [BitVec.toNat_ofNat, Nat.mod_eq_of_lt (by omega)]; omega

theorem witness_SnapshotReturnsTheStateAtItsStart :
    ∀ k, k < 624 → exec .mtWordRead ((snapshotFrom (idle 0 0) k).setArg0 (u32 k)) = .next (snapshotFrom (idle 0 0) (k + 1)) := by
  intro k hk
  rw [snapshotFrom]
  show execMtWordRead _ = _
  rw [execMtWordRead_of_le (by simpa using u32_toNat_le hk)]
  rfl

theorem witness_RestoreLeavesTheSavedTwister :
    (624#10).toNat ≤ 624 ∧ ∀ (ws : Words) (k : Nat), k < 624 →
      exec .mtWordWrite (((restoreFrom ws (idle 0 0) k).setArg0 (u32 k)).setArg1 (wordAt ws k))
        = .next (restoreFrom ws (idle 0 0) (k + 1)) := by
  refine ⟨by decide, fun ws k hk => ?_⟩
  rw [restoreFrom]
  show execMtWordWrite _ = _
  rw [execMtWordWrite_of_le (by simpa using u32_toNat_le hk)]
  rfl

/-- The conditions hold just beyond the bound and fail at it. -/
theorem witness_RangeArisesExactlyWhenAnOperandIsOut :
    1 ≤ (idle 5 0).keyMax ∧ Instr.wf .mtSeedArray = true
    ∧ RangeCondition .mtSeedArray (idle 5 0) ∧ ¬ RangeCondition .mtSeedArray (idle 4 0)
    ∧ RangeCondition .mtWordRead (idle 624 0) ∧ ¬ RangeCondition .mtWordRead (idle 623 0)
    ∧ RangeCondition .mtCursorWrite (idle 625 0) ∧ ¬ RangeCondition .mtCursorWrite (idle 624 0)
    ∧ RangeCondition .keyWrite (idle 4 0) ∧ ¬ RangeCondition .keyWrite (idle 3 0) := by
  refine ⟨by decide, by decide, ?_, ?_, ?_, ?_, ?_, ?_, ?_, ?_⟩ <;> unfold RangeCondition <;> decide

/-- A due command that raises RANGE, so that the frame's premise holds as well. -/
theorem witness_ErrorsChangeNothingButErrAndBusy :
    (due 0x00000006#32 624 0).pending = some 0x00000006#32 ∧ (due 0x00000006#32 624 0).delay = 0
    ∧ (got (step (due 0x00000006#32 624 0))).err = .range := by decide +kernel

theorem witness_PortWriteSlotBySlot :
    (idle 0 0).busy = false ∧ (0#4).toNat = 0 ∧ (1#4).toNat = 1 ∧ (7#4).toNat = 7 ∧ 8 ≤ (8#4).toNat ∧ 8 ≤ (15#4).toNat := by
  decide

theorem witness_PortReadSlotBySlot :
    (idle 0 0).busy = false ∧ (due 0x00000004#32 0 0).busy = true ∧ (1#4).toNat = 1 := by decide

theorem witness_BusyAccessStops : (due 0x00000004#32 0 0).busy = true ∧ (0#4).toNat ≠ 1 ∧ (1#4).toNat = 1 := by decide

theorem witness_PendingCommandCompletes :
    let s := { due 0x00000005#32 0 0 with delay := 3, host := { ops := [.read 1#4, .poll], latencies := [], observed := [] } }
    s.busy = true ∧ ∀ op ∈ s.host.ops, op = .poll ∨ op = .read 1#4 := by
  refine ⟨rfl, fun op h => ?_⟩
  rcases List.mem_cons.mp h with rfl | h
  · exact .inr rfl
  · exact .inl (by simpa using h)

/-- Both an idle and a busy block. -/
theorem witness_PolledHostNeverMeetsTheBusyHazard :
    let h : HostSide := { ops := [.read 1#4, .poll, .write 2#4 5#32, .write 0#4 4#32, .poll, .read 4#4], latencies := [2], observed := [] }
    polled ({ idle 0 0 with host := h }).busy h.ops = true
    ∧ polled ({ due 0x00000005#32 0 0 with delay := 3, host := h }).busy h.ops = true := by decide

theorem witness_AssemblerRefusesByLineNumber :
    assembleLine "poll".toList ≠ none ∧ assembleLine "mt.seed".toList = none := by decide +kernel

theorem witness_ResetSatisfiesTheInvariant : (State.resetWith 1).Inv := by decide

theorem witness_EveryStepKeepsTheInvariant :
    (due 0x00000009#32 624 0).Inv ∧ ∃ t, step (due 0x00000009#32 624 0) = .next t :=
  ⟨by decide, ⟨_, (step_of_ready (w := 0x00000009#32) rfl rfl).trans
    (execMtCursorWrite_of_le (s := due 0x00000009#32 624 0) (by decide))⟩⟩

/-- No operation left, and each operation, while idle; a poll while the command is not yet due. -/
theorem witness_HostTurnMakesTheNextOperation :
    (idle 0 0).readyCommand = none ∧ (idle 0 0).host.ops = []
    ∧ (∀ op : HostOp,
        let s := { idle 0 0 with host := { ops := [op], latencies := [], observed := [] } }
        s.readyCommand = none ∧ s.host.ops = [op])
    ∧ ∃ s : State, s.busy = true ∧ s.readyCommand = none ∧ s.host.ops = [.poll] :=
  ⟨rfl, rfl, fun _ => ⟨rfl, rfl⟩,
    { due 0x00000004#32 0 0 with delay := 1, host := { ops := [.poll], latencies := [], observed := [] } }, rfl, rfl, rfl⟩

/-- A poll of a busy block is a step of none of the first three kinds. -/
theorem witness_BlockChangesOnlyAtWritesAndCompletions :
    ∃ s t : State, step s = .next t ∧ s.readyCommand = none ∧ s.host.ops = [.poll] :=
  ⟨{ due 0x00000004#32 0 0 with delay := 1, host := { ops := [.poll], latencies := [], observed := [] } }, _, rfl, rfl, rfl⟩

/-- SEEDED falls at a reset, and rises with MT_SEED_SCALAR. -/
theorem witness_SeededIsClearedOnlyByReset :
    (∃ s t : State, s.seeded = true ∧ step s = .next t ∧ t.seeded = false)
    ∧ (due 0x00000002#32 0 0).seeded = false ∧ ∃ t, step (due 0x00000002#32 0 0) = .next t ∧ t.seeded = true :=
  ⟨⟨{ idle 0 0 with seeded := true, host := { ops := [.reset], latencies := [], observed := [] } }, _, rfl, rfl, rfl⟩,
    rfl, _, rfl, rfl⟩

theorem witness_KeyIsWrittenOnlyByKeyWrite :
    ∃ t, step (due 0x0000000A#32 3 9) = .next t ∧ t.key ≠ (due 0x0000000A#32 3 9).key := by
  refine ⟨_, (step_of_ready (w := 0x0000000A#32) rfl rfl).trans
    (execKeyWrite_of_lt (s := due 0x0000000A#32 3 9) (by decide)), ?_⟩
  show [0#32, 0#32, 0#32, 9#32] ≠ [0#32, 0#32, 0#32, 0#32]
  decide

/-- HOLDRAND changes at a BOOTSTRAP and at a port write of slot 7; another command runs beside it. -/
theorem witness_HoldrandIsTouchedOnlyByBootstrap :
    (∃ t, step (due 0x00000005#32 0 0) = .next t ∧ t.holdrand ≠ (due 0x00000005#32 0 0).holdrand)
    ∧ (∃ t, step { idle 0 0 with host := { ops := [.write 7#4 9#32], latencies := [], observed := [] } } = .next t
        ∧ t.holdrand ≠ (idle 0 0).holdrand)
    ∧ Instr.mtCursorRead ≠ .bootstrap ∧ ∃ t, exec .mtCursorRead (idle 0 0) = .next t := by
  refine ⟨⟨_, rfl, ?_⟩, ⟨_, rfl, ?_⟩, by decide, _, rfl⟩
  · show (2345678#32 : Word) ≠ 0#32; decide
  · show (9#32 : Word) ≠ 0#32; decide

/-- RESULT changes in a command, and in a step that runs one. -/
theorem witness_ResultIsWrittenOnlyByProducers :
    (∃ t, exec .mtCursorRead (idle 0 0) = .next t ∧ t.result ≠ (idle 0 0).result)
    ∧ ∃ t, step (due 0x00000008#32 0 0) = .next t ∧ t.result ≠ (due 0x00000008#32 0 0).result := by
  refine ⟨⟨_, rfl, ?_⟩, _, rfl, ?_⟩ <;>
    · show (624#10).setWidth 32 ≠ (0#32 : Word)
      decide

theorem witness_ArgsAreWrittenOnlyByLcgNext :
    ∃ t, exec (.lcgNext .arg0) (idle 1 0) = .next t ∧ t.arg0 ≠ (idle 1 0).arg0 := by
  refine ⟨_, rfl, ?_⟩
  show lcg31 1#32 ≠ 1#32
  decide +kernel

/-- The block does not step: it is idle, or its command is not yet due. -/
theorem witness_ResetDropsThePendingCommand :
    (∃ s : State, s.busy = false ∧ s.readyCommand = none ∧ s.host.ops = [.reset])
    ∧ ∃ s : State, s.busy = true ∧ s.readyCommand = none ∧ s.host.ops = [.reset] :=
  ⟨⟨{ idle 0 0 with host := { ops := [.reset], latencies := [], observed := [] } }, rfl, rfl, rfl⟩,
    { due 0x00000004#32 0 0 with delay := 1, host := { ops := [.reset], latencies := [], observed := [] } }, rfl, rfl, rfl⟩

/-- Two states that differ in a word that nothing has written since reset, and a command that reads no such word. -/
theorem witness_SpecifiedRunsIgnoreUnspecifiedData :
    let s₁ := due 0x00000008#32 0 0
    let s₂ := { due 0x00000008#32 0 0 with words := setWordAt (Vector.replicate 624 0) 7 9#32 }
    Agree s₁ s₂ ∧ s₁.words ≠ s₂.words ∧ ∃ t₁, step s₁ = .next t₁ ∧ t₁.Specified := by
  refine ⟨⟨rfl, rfl, rfl, rfl, rfl, rfl, rfl, rfl, ?_, fun _ _ => rfl, fun _ => rfl, fun _ => rfl, fun _ => rfl,
    fun _ => rfl, fun _ => rfl, fun _ => rfl⟩, ?_, _, rfl, rfl⟩
  · intro i hi h
    exfalso
    revert h
    show ¬ (Vector.replicate 624 false)[i % 624] = true
    simp
  · intro h
    have := congrArg (fun w => wordAt w 7) h
    revert this
    decide +kernel

end Sys2Proof.Tests
end

namespace Sys2Proof.Machine

/-! ## 10_state.md: what seeding leaves, and what changes RESULT -/

/-! ### Seeded vectors are not all zero (R33) -/

/-- With word 0 equal to 0, the recurrence of 41_mt_seeding.md R90 makes word 1 equal to its index. -/
theorem IsScalarSeed.not_allZero {v : Word} {w : Words} (h : IsScalarSeed v w) : ¬ AllZero w := by
  intro hz
  have h1 : wordAt w 1 = 1812433253#32 * (wordAt w 0 ^^^ (wordAt w 0 >>> 30)) + u32 1 :=
    h.2 1 (by decide) (by decide)
  rw [hz 0 (by decide), hz 1 (by decide)] at h1
  exact absurd h1 (by decide)

/-- Array seeding forces word 0 to a value that is not 0 (41_mt_seeding.md R92, R98). -/
theorem IsArraySeed.not_allZero {key : List Word} {L : Nat} {w : Words} (h : IsArraySeed key L w) : ¬ AllZero w := by
  obtain ⟨_, _, -, -, -, -, hw⟩ := h
  intro hz
  have h0 : wordAt w 0 = 0x80000000#32 := hw 0 (by decide)
  rw [hz 0 (by decide)] at h0
  exact absurd h0 (by decide)

theorem seedFromKey_not_allZero (key : List Word) (L : Nat) (w : Words) : ¬ AllZero (seedFromKey key L w) := by
  unfold seedFromKey
  split
  · exact (seedScalar_isScalarSeed _ _).not_allZero
  next hL => exact (seedArray_isArraySeed key L w (Nat.one_le_iff_ne_zero.mpr hL)).not_allZero

/-- Overwriting the only element that is not 0 with 0 leaves the all-zero vector. -/
theorem allZero_setWordAt_zero {w : Words} {i : Nat} (hi : i < 624)
    (h : ∀ k, k < 624 → k ≠ i → wordAt w k = 0#32) : AllZero (setWordAt w i 0#32) := by
  intro k hk
  by_cases hki : k = i
  · rw [hki, wordAt_setWordAt_same]
  · rw [wordAt_setWordAt_ne _ hi hk hki, h k hk hki]

/-- The reset state with a single element of `words` that is not 0, which ARG0 = 0 selects. -/
def stateWithOneWordSet : State := State.reset.setWord 0 1#32

theorem stateWithOneWordSet_word_zero : wordAt stateWithOneWordSet.words 0 = 1#32 := wordAt_setWordAt_same _ _ _

theorem stateWithOneWordSet_other_words {k : Nat} (hk : k < 624) (h0 : k ≠ 0) :
    wordAt stateWithOneWordSet.words k = 0#32 := by
  have hreset : wordAt State.reset.words k = 0#32 := by simp [wordAt, State.reset, State.resetWith]
  rw [← hreset]
  exact wordAt_setWordAt_ne _ (by decide) hk h0

/-- Settles O17. Each seeding command loads a vector that its pass has left, and neither recurrence has the all-zero
vector as a solution; for MT_WORD_WRITE, a state whose one word that is not 0 is overwritten with 0. -/
theorem seedingNeverLeavesTheZeroVector : Obligations.SeedingNeverLeavesTheZeroVector := by
  unfold Obligations.SeedingNeverLeavesTheZeroVector
  constructor
  · rintro i s t (rfl | rfl | rfl) h herr
    case inl =>
      rw [← next_inj h]
      exact (seedScalar_isScalarSeed s.arg0 s.words).not_allZero
    case inr.inl =>
      by_cases hL : s.arg0.toNat ≤ s.keyMax
      · rw [← next_inj ((execMtSeedArray_of_le hL).symm.trans h)]
        exact seedFromKey_not_allZero s.key s.arg0.toNat s.words
      · rw [← next_inj ((execMtSeedArray_of_gt (Nat.lt_of_not_le hL)).symm.trans h)] at herr
        cases herr
    case inr.inr =>
      rw [← next_inj h]
      exact (seedScalar_isScalarSeed 5489#32 s.words).not_allZero
  · refine ⟨stateWithOneWordSet, _, ?_, execMtWordWrite_of_le (by decide), rfl, ?_⟩
    · intro hz
      have h0 := hz 0 (by decide)
      rw [stateWithOneWordSet_word_zero] at h0
      exact absurd h0 (by decide)
    · exact allZero_setWordAt_zero (by decide) fun k hk h0 => stateWithOneWordSet_other_words hk h0

/-! ### A word that decodes is the encoding of its command (30_encoding.md R60 to R65) -/

/-- The three fields are the whole command word. -/
theorem word_eq_fields (w : Word) : w = u32 (opField w + 256 * cellField w + 1024 * rsvField w) := by
  apply BitVec.eq_of_toNat_eq
  simp only [opField, cellField, rsvField, BitVec.extractLsb'_toNat, BitVec.toNat_ofNat, Nat.shiftRight_eq_div_pow]
  omega

theorem cellField_lt (w : Word) : cellField w < 4 := (w.extractLsb' 8 2).isLt

theorem code_cellOfField {n : Nat} (h : n < 4) : (cellOfField n).code = n := by
  revert n
  decide

/-- What the opcode map answers has the opcode it was asked for, and carries the cell just when that is LCG_NEXT's. -/
theorem instrOfOp_eq_some {op : Nat} {cell : CellSel} {i : Instr} (h : instrOfOp op cell = some i) :
    i.opcode = op ∧ i.cellCode = if op = 0x01 then cell.code else 0 := by
  unfold instrOfOp at h
  split at h <;> cases h <;> exact ⟨rfl, rfl⟩

/-- Everything the decoder has checked of a word that it accepts. -/
theorem decode_eq_ok {w : Word} {i : Instr} (h : decode w = .ok i) :
    rsvField w = 0 ∧ (opField w ≠ 0x01 → cellField w = 0)
    ∧ instrOfOp (opField w) (cellOfField (cellField w)) = some i := by
  unfold decode at h
  split_ifs at h with hrsv hop hres hstray
  split at h
  next j hj =>
    cases h
    exact ⟨not_not.mp hrsv, fun h1 => by_contra fun h0 => hstray ⟨h1, h0⟩, hj⟩
  · cases h

theorem encode_of_decode {w : Word} {i : Instr} (h : decode w = .ok i) : encode i = w := by
  obtain ⟨hrsv, hcell, hi⟩ := decode_eq_ok h
  obtain ⟨hop, hcode⟩ := instrOfOp_eq_some hi
  have hcellCode : i.cellCode = cellField w := by
    rw [hcode]
    split
    · exact code_cellOfField (cellField_lt w)
    next h1 => exact (hcell h1).symm
  calc encode i = u32 (opField w + 256 * cellField w + 1024 * rsvField w) := by
        rw [encode, hop, hcellCode, hrsv, Nat.mul_zero, Nat.add_zero]
    _ = w := (word_eq_fields w).symm

/-! ### What changes RESULT (R26) -/

/-- The command produces a value (R26). -/
abbrev ProducesResult (i : Instr) : Prop :=
  (∃ c, i = .lcgNext c) ∨ i = .mtNext ∨ i = .mtWordRead ∨ i = .mtCursorRead ∨ i = .keyRead

/-- A command ends without error, or it has only raised ILLEGAL or RANGE. -/
theorem exec_completes_or_raises {i : Instr} {s t : State} (h : exec i s = .next t) :
    t.err = .none ∨ t = s.raiseError .illegal ∨ t = (s.noteRead s.ghost.arg0).raiseError .range := by
  cases i with
  | lcgNext c =>
    by_cases hc : c = .reserved
    · subst hc
      exact .inr (.inl (next_inj h).symm)
    · rw [← next_inj ((execLcgNext_of_ne hc s).symm.trans h)]
      exact .inl rfl
  | mtSeedScalar | mtNext | bootstrap | mtCursorRead =>
    rw [← next_inj h]
    exact .inl rfl
  | mtSeedArray | mtWordRead | mtWordWrite | mtCursorWrite | keyWrite | keyRead =>
    simp only [exec, execMtSeedArray, execMtWordRead, execMtWordWrite, execMtCursorWrite, execKeyWrite,
      execKeyRead] at h
    split at h
    · rw [← next_inj h]
      exact .inl rfl
    · exact .inr (.inr (next_inj h).symm)

/-- A command that raises an error leaves RESULT. -/
theorem exec_result_of_err {i : Instr} {s t : State} (h : exec i s = .next t) (herr : t.err ≠ .none) :
    t.result = s.result := by
  obtain hnone | rfl | rfl := exec_completes_or_raises h
  · exact absurd hnone herr
  · rfl
  · rfl

/-- A command that produces no value leaves RESULT. -/
theorem exec_result_of_not_producesResult {i : Instr} {s t : State} (h : exec i s = .next t)
    (hi : ¬ ProducesResult i) : t.result = s.result := by
  cases i with
  | lcgNext | mtNext | mtWordRead | mtCursorRead | keyRead => simp [ProducesResult] at hi
  | mtSeedScalar | bootstrap => rw [← next_inj h]; rfl
  | mtSeedArray | mtWordWrite | mtCursorWrite | keyWrite =>
    simp only [exec, execMtSeedArray, execMtWordWrite, execMtCursorWrite, execKeyWrite] at h
    split at h <;> (rw [← next_inj h]; rfl)

theorem exec_result_ne {i : Instr} {s t : State} (h : exec i s = .next t) (hr : t.result ≠ s.result) :
    t.err = .none ∧ ProducesResult i :=
  ⟨by_contra fun herr => hr (exec_result_of_err h herr),
    by_contra fun hi => hr (exec_result_of_not_producesResult h hi)⟩

/-- RESULT is read-only at the port (R26). -/
@[simp] theorem State.writeReg_result (s : State) (r : PortReg) (v : Word) : (s.writeReg r v).result = s.result := by
  cases r <;> rfl

@[simp] theorem pollOnce_result (s : State) : (pollOnce s).result = s.result := by
  unfold pollOnce
  split <;> rfl

/-- Of the host's operations only a reset changes RESULT. -/
theorem hostTurn_result_ne {s t : State} (h : hostTurn s = .next t) (hr : t.result ≠ s.result) :
    ∃ rest, s.host.ops = .reset :: rest := by
  obtain ⟨-, rfl⟩ | ⟨_, _, _, -, -, rfl⟩ | ⟨_, _, -, -, rfl⟩ | ⟨_, -, rfl⟩ | ⟨rest, hops, -⟩ := hostTurn_cases h
  case inr.inr.inr.inr => exact ⟨rest, hops⟩
  all_goals simp at hr

/-- Settles O53, by what a command, a due word that does not decode, and a host turn each do to RESULT. -/
theorem resultIsWrittenOnlyByProducers : Obligations.ResultIsWrittenOnlyByProducers := by
  unfold Obligations.ResultIsWrittenOnlyByProducers
  refine ⟨fun i s t h hr => exec_result_ne h hr, fun s t h hr => ?_⟩
  obtain ⟨w, i, hp, hd, hdec, hexec⟩ | ⟨w, e, -, -, -, rfl⟩ | ⟨hready, hturn⟩ := step_cases h
  · obtain ⟨herr, hi⟩ := exec_result_ne hexec hr
    have hready : s.readyCommand = some (encode i) := by
      rw [encode_of_decode hdec]
      exact readyCommand_eq_some.mpr ⟨hd, hp⟩
    exact .inl ⟨i, hready, herr, hi⟩
  · exact absurd rfl hr
  · exact .inr ⟨hready, hostTurn_result_ne (s := s.passTurn) hturn hr⟩

end Sys2Proof.Machine

namespace Sys2Proof.Machine

/-! ## 30_encoding.md: the illegal command words (R65) -/

/-! ### The fields as parts of the command word as a number (R61 to R63) -/

theorem opField_eq_mod (w : Word) : opField w = w.toNat % 256 := by
  simp [opField]

theorem cellField_eq_div_mod (w : Word) : cellField w = w.toNat / 256 % 4 := by
  simp [cellField, Nat.shiftRight_eq_div_pow]

theorem rsvField_eq_div (w : Word) : rsvField w = w.toNat / 1024 := by
  simp only [rsvField, BitVec.extractLsb'_toNat, Nat.shiftRight_eq_div_pow]
  omega

theorem illegalWord_iff_fields (w : Word) :
    IllegalWord w ↔ opField w = 0x00 ∨ 0x0C ≤ opField w ∨ rsvField w ≠ 0 ∨ (opField w = 0x01 ∧ cellField w = 3)
      ∨ (opField w ≠ 0x01 ∧ cellField w ≠ 0) := by
  rw [opField_eq_mod, cellField_eq_div_mod, rsvField_eq_div, IllegalWord]

/-! ### The decoder refuses exactly the illegal words -/

/-- The opcode map covers 0x01 to 0x0B (R64). -/
theorem instrOfOp_ne_none {op : Nat} (h1 : 0x01 ≤ op) (hlt : op < 0x0C) (cell : CellSel) :
    instrOfOp op cell ≠ none := by
  interval_cases op <;> exact Option.some_ne_none _

/-- The decoder's four checks are the five conditions, and a word that passes them has an opcode of the map. -/
theorem decode_eq_error_iff (w : Word) : (∃ e, decode w = .error e) ↔ IllegalWord w := by
  rw [illegalWord_iff_fields]
  unfold decode
  split_ifs with hrsv hop hres hstray
  · exact iff_of_true ⟨_, rfl⟩ (.inr (.inr (.inl hrsv)))
  · exact iff_of_true ⟨_, rfl⟩ (hop.imp_right .inl)
  · exact iff_of_true ⟨_, rfl⟩ (.inr (.inr (.inr (.inl hres))))
  · exact iff_of_true ⟨_, rfl⟩ (.inr (.inr (.inr (.inr hstray))))
  · obtain ⟨h0, hlt⟩ := not_or.mp hop
    split
    · refine iff_of_false (fun ⟨_, he⟩ => nomatch he) ?_
      simp only [not_or]
      exact ⟨h0, hlt, hrsv, hres, hstray⟩
    next hnone => exact absurd hnone (instrOfOp_ne_none (Nat.pos_of_ne_zero h0) (Nat.lt_of_not_le hlt) _)

/-- The one operand check is that CELL is not the reserved 3 (R62). -/
theorem wf_of_cellCode_ne {i : Instr} (h : i.cellCode ≠ 3) : i.wf = true := by
  cases i with
  | lcgNext cell =>
    cases cell with
    | reserved => exact absurd rfl h
    | arg0 | lcgCell0 | lcgCell1 => rfl
  | _ => rfl

theorem not_illegalWord_of_decode {w : Word} {i : Instr} (h : decode w = .ok i) : ¬ IllegalWord w := by
  rw [← decode_eq_error_iff, h]
  exact fun ⟨_, he⟩ => nomatch he

/-- Conditions (d) and (e) leave an accepted word no CELL of 3. -/
theorem wf_of_decode {w : Word} {i : Instr} (h : decode w = .ok i) : i.wf = true := by
  obtain ⟨-, -, hi⟩ := decode_eq_ok h
  obtain ⟨-, hcode⟩ := instrOfOp_eq_some hi
  rw [code_cellOfField (cellField_lt w)] at hcode
  have hw := not_illegalWord_of_decode h
  rw [illegalWord_iff_fields] at hw
  apply wf_of_cellCode_ne
  rw [hcode]
  split <;> omega

/-! ### A due command word -/

theorem step_of_decode_error {s : State} {w : Word} {e : DecodeError} (hp : s.pending = some w) (hd : s.delay = 0)
    (h : decode w = .error e) : step s = .next (s.raiseError .illegal) := by
  simp [step_of_ready hp hd, runCommand, h]

theorem step_of_decode_ok {s : State} {w : Word} {i : Instr} (hp : s.pending = some w) (hd : s.delay = 0)
    (h : decode w = .ok i) : step s = exec i s := by
  rw [step_of_ready hp hd, runCommand, h]

/-- Settles O3. The decoder refuses exactly the illegal words, and a due word that it refuses only raises ILLEGAL. -/
theorem illegalWordOnlyRaisesIllegal : Obligations.IllegalWordOnlyRaisesIllegal := by
  unfold Obligations.IllegalWordOnlyRaisesIllegal
  intro s w hp hd
  constructor
  · intro hw
    obtain ⟨e, he⟩ := (decode_eq_error_iff w).mpr hw
    exact step_of_decode_error hp hd he
  · intro hw
    cases hdec : decode w with
    | ok i => exact ⟨i, wf_of_decode hdec, rfl, step_of_decode_ok hp hd hdec⟩
    | error e => exact absurd ((decode_eq_error_iff w).mp ⟨e, hdec⟩) hw

end Sys2Proof.Machine

namespace Sys2Proof.Machine

/-! ## 40_lcg.md: the LCG and LCG_NEXT -/

/-! ### The fold on integers (R80) -/

/-- The correction of R80 on a pattern is the correction on its number. -/
theorem toNat_correction (r : Word) :
    (if 0x7FFFFFFF ≤ r.toNat then r - 0x7FFFFFFF#32 else r).toNat
      = if 0x7FFFFFFF ≤ r.toNat then r.toNat - 0x7FFFFFFF else r.toNat := by
  split
  next h => exact BitVec.toNat_sub_of_le h
  next => rfl

/-- The folded pattern is the sum of the low 31 bits and of the next 32, modulo 2^32. -/
theorem toNat_fold (T : BitVec 64) :
    ((T.extractLsb' 0 31).setWidth 32 + T.extractLsb' 31 32).toNat
      = (T.toNat % 2 ^ 31 + T.toNat / 2 ^ 31 % 2 ^ 32) % 2 ^ 32 := by
  simp [BitVec.extractLsb'_toNat, Nat.shiftRight_eq_div_pow]

/-- Settles O6. Each operation of `lcg31` on bit vectors is the integer operation modulo its width. -/
theorem lcgDatapath : Obligations.LcgDatapath := by
  unfold Obligations.LcgDatapath
  intro v
  have hT : ((BitVec.ofInt 64 (sint32 v * 742938285)).toNat : Int) = (sint32 v * 742938285) % 2 ^ 64 := by
    rw [BitVec.toNat_ofInt, Int.toNat_of_nonneg (Int.emod_nonneg _ (by decide))]
    rfl
  simp only [lcg31, ← hT]
  rw [toNat_correction, toNat_fold]
  split_ifs <;> omega

/-- The signed product `t` of R84. -/
def lcgProduct (v : Word) : Int := sint32 v * 742938285

/-- The signed sum `σ` of R84: the low 31 bits of `t` plus its quotient by 2^31. -/
def foldSum (t : Int) : Int := t % 2 ^ 31 + t / 2 ^ 31

/-- Folding keeps the residue, since 2^31 is 1 modulo 2^31 - 1. -/
theorem foldSum_emod (t : Int) : foldSum t % (2 ^ 31 - 1) = t % (2 ^ 31 - 1) := by
  unfold foldSum
  omega

/-- The two bit fields that R80 adds are the signed sum, modulo 2^32. -/
theorem fields_emod_eq_foldSum_emod (t : Int) :
    (t % 2 ^ 64 % 2 ^ 31 + t % 2 ^ 64 / 2 ^ 31 % 2 ^ 32) % 2 ^ 32 = foldSum t % 2 ^ 32 := by
  unfold foldSum
  omega

/-- `lcg31` is the fold modulo 2^32 and at most one correction. -/
theorem lcg31_eq_foldSum (v : Word) :
    ((lcg31 v).toNat : Int) =
      if 0x7FFFFFFF ≤ foldSum (lcgProduct v) % 2 ^ 32 then foldSum (lcgProduct v) % 2 ^ 32 - 0x7FFFFFFF
      else foldSum (lcgProduct v) % 2 ^ 32 := by
  rw [← fields_emod_eq_foldSum_emod]
  exact lcgDatapath v

/-! ### Seeds of 0 or more (R82) -/

theorem foldSum_bounds_of_nonneg {v : Word} (h : 0 ≤ sint32 v) :
    0 ≤ foldSum (lcgProduct v) ∧ foldSum (lcgProduct v) < 2 * (2 ^ 31 - 1) := by
  have hlt : sint32 v < 2 ^ 31 := BitVec.toInt_lt
  unfold foldSum lcgProduct
  omega

/-- One correction is the residue of a sum below twice the modulus. -/
theorem lcg31_eq_foldSum_emod {v : Word} (hlo : 0 ≤ foldSum (lcgProduct v))
    (hhi : foldSum (lcgProduct v) < 2 * (2 ^ 31 - 1)) :
    ((lcg31 v).toNat : Int) = foldSum (lcgProduct v) % (2 ^ 31 - 1) := by
  rw [lcg31_eq_foldSum, Int.emod_eq_of_lt hlo (by omega)]
  split <;> omega

/-- Settles O7. The fold keeps the residue and is below twice the modulus, so one correction brings it into range. -/
theorem lcgIsExactOnNonNegativeSeeds : Obligations.LcgIsExactOnNonNegativeSeeds := by
  unfold Obligations.LcgIsExactOnNonNegativeSeeds
  intro v hv
  obtain ⟨hlo, hhi⟩ := foldSum_bounds_of_nonneg hv
  have hr := lcg31_eq_foldSum_emod hlo hhi
  exact ⟨hr.trans (foldSum_emod _), by omega⟩

/-! ### Negative seeds (R84) -/

theorem lcgProduct_bounds_of_neg {v : Word} (h : sint32 v < 0) :
    -(2 ^ 31) * 742938285 ≤ lcgProduct v ∧ lcgProduct v ≤ -742938285 := by
  have hle : -(2 ^ 31) ≤ sint32 v := BitVec.le_toInt v
  unfold lcgProduct
  omega

theorem quotient_bounds {t : Int} (hlo : -(2 ^ 31) * 742938285 ≤ t) (hhi : t ≤ -742938285) :
    -742938285 ≤ t / 2 ^ 31 ∧ t / 2 ^ 31 ≤ -1 := by
  omega

theorem foldSum_bounds_of_quotient {t : Int} (h : -742938285 ≤ t / 2 ^ 31 ∧ t / 2 ^ 31 ≤ -1) :
    -742938285 ≤ foldSum t ∧ foldSum t ≤ 2 ^ 31 - 2 := by
  unfold foldSum
  omega

/-- A sum of 0 or more and below the modulus needs no correction. -/
theorem lcg31_exact_of_foldSum_nonneg {v : Word} (h : 0 ≤ foldSum (lcgProduct v))
    (hhi : foldSum (lcgProduct v) ≤ 2 ^ 31 - 2) :
    ((lcg31 v).toNat : Int) = foldSum (lcgProduct v) ∧ ((lcg31 v).toNat : Int) = lcgProduct v % (2 ^ 31 - 1) := by
  have hr := lcg31_eq_foldSum_emod h (by omega)
  exact ⟨hr.trans (Int.emod_eq_of_lt h (by omega)), hr.trans (foldSum_emod _)⟩

/-- A negative sum wraps to a pattern of 2^31 or more, and the unsigned compare corrects it once. -/
theorem lcg31_of_foldSum_neg {v : Word} (h : foldSum (lcgProduct v) < 0)
    (hlo : -742938285 ≤ foldSum (lcgProduct v)) :
    ((lcg31 v).toNat : Int) = foldSum (lcgProduct v) + 2 ^ 31 + 1 := by
  have hwrap : foldSum (lcgProduct v) % 2 ^ 32 = foldSum (lcgProduct v) + 2 ^ 32 := by omega
  rw [lcg31_eq_foldSum, hwrap, if_pos (by omega)]
  omega

/-- The residue of a negative sum is `σ + 2^31 - 1`, 2 below the result. -/
theorem lcg31_exact_add_two_of_foldSum_neg {v : Word} (h : foldSum (lcgProduct v) < 0)
    (hlo : -742938285 ≤ foldSum (lcgProduct v)) :
    ((lcg31 v).toNat : Int) = lcgProduct v % (2 ^ 31 - 1) + 2 := by
  rw [lcg31_of_foldSum_neg h hlo, ← foldSum_emod]
  omega

theorem lcg31_range_of_foldSum_neg {v : Word} (h : foldSum (lcgProduct v) < 0)
    (hlo : -742938285 ≤ foldSum (lcgProduct v)) :
    1404545364 ≤ ((lcg31 v).toNat : Int) ∧ ((lcg31 v).toNat : Int) ≤ 0x80000000
      ∧ (((lcg31 v).toNat : Int) = 0x80000000 ↔ foldSum (lcgProduct v) = -1) := by
  rw [lcg31_of_foldSum_neg h hlo]
  omega

/-- Settles O8. The fold keeps the residue; whether it is negative decides whether the correction applies. -/
theorem lcgOnNegativeSeeds : Obligations.LcgOnNegativeSeeds := by
  unfold Obligations.LcgOnNegativeSeeds
  refine ⟨fun v hv => ?_, by decide, by decide⟩
  have ht := lcgProduct_bounds_of_neg hv
  have hquot := quotient_bounds ht.1 ht.2
  have hsum := foldSum_bounds_of_quotient hquot
  exact ⟨ht, hquot, hsum, fun hσ => lcg31_exact_of_foldSum_nonneg hσ hsum.2, fun hσ =>
    ⟨lcg31_of_foldSum_neg hσ hsum.1, lcg31_exact_add_two_of_foldSum_neg hσ hsum.1,
      lcg31_range_of_foldSum_neg hσ hsum.1⟩⟩

/-! ### Streams that never stall (R83) -/

theorem sint32_eq_toNat {v : Word} (h : v.toNat ≤ 0x7FFFFFFF) : sint32 v = v.toNat :=
  BitVec.toInt_eq_toNat_of_lt (by omega)

theorem sint32_nonneg {v : Word} (h : v.toNat ≤ 0x7FFFFFFF) : 0 ≤ sint32 v := by
  rw [sint32_eq_toNat h]
  exact Int.natCast_nonneg _

/-- The multiplier is coprime to the modulus, so that no seed but a multiple of the modulus gives residue 0. -/
theorem modulus_dvd_of_product_emod_eq_zero {x : Int} (h : x * 742938285 % (2 ^ 31 - 1) = 0) : 2 ^ 31 - 1 ∣ x :=
  have hcoprime : IsCoprime (2 ^ 31 - 1 : Int) 742938285 := Int.isCoprime_iff_gcd_eq_one.mpr (by decide)
  hcoprime.dvd_of_dvd_mul_right (Int.dvd_of_emod_eq_zero h)

/-- The seeds of R83 (d), whose streams never stall. -/
def liveSeeds : Set Word := {v | 1 ≤ v.toNat ∧ v.toNat ≤ 0x7FFFFFFE}

theorem not_modulus_dvd_sint32 {v : Word} (h : v ∈ liveSeeds) : ¬ 2 ^ 31 - 1 ∣ sint32 v := by
  obtain ⟨h1, h2⟩ := h
  rw [sint32_eq_toNat (by omega)]
  omega

theorem lcg31_mapsTo_liveSeeds : Set.MapsTo lcg31 liveSeeds liveSeeds := by
  intro v hv
  obtain ⟨hres, hle⟩ := lcgIsExactOnNonNegativeSeeds v (sint32_nonneg (Nat.le_succ_of_le hv.2))
  refine ⟨Nat.pos_of_ne_zero fun h0 => ?_, hle⟩
  rw [h0, Nat.cast_zero] at hres
  exact not_modulus_dvd_sint32 hv (modulus_dvd_of_product_emod_eq_zero hres.symm)

/-- Settles O9. 0 is a fixed point, and `liveSeeds` is closed under the step because the multiplier is coprime to the
modulus. -/
theorem lcgStallsAndNeverStalls : Obligations.LcgStallsAndNeverStalls := by
  unfold Obligations.LcgStallsAndNeverStalls
  exact ⟨Function.iterate_fixed (by decide), by decide, by decide,
    fun v h1 h2 n => lcg31_mapsTo_liveSeeds.iterate n ⟨h1, h2⟩, fun c s hc => ⟨_, execLcgNext_of_ne hc s, rfl⟩⟩

/-! ### The range of the results (R85) -/

/-- With enough iterations for `u`, the loop of 43_bootstrap.md R130 leaves the remainder. -/
theorem foldTimeLoop_eq_mod (n : Nat) {u : Nat} (h : u < (n + 1) * 0x7FFFFFFE) :
    foldTimeLoop n u = u % 0x7FFFFFFE := by
  induction n generalizing u with
  | zero => rw [foldTimeLoop, Nat.mod_eq_of_lt (by omega)]
  | succ n ih =>
    rw [foldTimeLoop]
    split
    next hge => rw [ih (by omega), Nat.mod_eq_sub_mod hge]
    next hlt => rw [Nat.mod_eq_of_lt (by omega)]

theorem foldTime_toNat (t : Word) : (foldTime t).toNat = t.toNat % 0x7FFFFFFE + 1 := by
  rw [foldTime, foldTimeLoop_eq_mod 2 (by omega), BitVec.toNat_ofNat]
  omega

theorem sint32_foldTime_nonneg (t : Word) : 0 ≤ sint32 (foldTime t) :=
  sint32_nonneg (by rw [foldTime_toNat]; omega)

/-- Settles O10. O7 and O8 give the results their range, and BOOTSTRAP's cells are a constant and a folded time. -/
theorem lcgResultRange : Obligations.LcgResultRange := by
  unfold Obligations.LcgResultRange
  refine ⟨fun v => ?_, by decide, fun s => ⟨_, rfl, ?_, sint32_foldTime_nonneg s.arg0⟩⟩
  · by_cases hv : 0 ≤ sint32 v
    · obtain ⟨-, hle⟩ := lcgIsExactOnNonNegativeSeeds v hv
      omega
    · obtain ⟨-, -, hsum, hnonneg, hneg⟩ := lcgOnNegativeSeeds.1 v (by omega)
      omega
  · change 0 ≤ sint32 15937#32
    decide

/-! ### LCG_NEXT's effect and frame (R81) -/

theorem SameOutside.trans {P : Place → Prop} {s t u : State} (hst : SameOutside P s t) (htu : SameOutside P t u) :
    SameOutside P s u := by
  obtain ⟨hp, hk, hd, hh⟩ := hst
  obtain ⟨hp', hk', hd', hh'⟩ := htu
  exact ⟨fun p h => (hp' p h).trans (hp p h), hk'.trans hk, hd'.trans hd, hh'.trans hh⟩

theorem SameOutside.mono {P Q : Place → Prop} {s t : State} (h : SameOutside P s t) (hPQ : ∀ p, P p → Q p) :
    SameOutside Q s t :=
  ⟨fun p hp => h.1 p (mt (hPQ p) hp), h.2⟩

theorem sameOutside_noteRead (s : State) (b : Bool) : SameOutside (fun _ => False) s (s.noteRead b) :=
  ⟨fun p _ => by cases p <;> rfl, rfl, rfl, rfl⟩

theorem sameOutside_setResult (s : State) (v : Word) : SameOutside (fun p => p = .result) s (s.setResult v) := by
  refine ⟨fun p hp => ?_, rfl, rfl, rfl⟩
  cases p with
  | result => exact absurd rfl hp
  | _ => rfl

theorem peek_setCell_of_ne {c : CellSel} {p : Place} (h : some p ≠ cellPlace c) (s : State) (v : Word) :
    (s.setCell c v).peek p = s.peek p := by
  cases p with
  | arg0 =>
    cases c with
    | arg0 => exact absurd rfl h
    | _ => rfl
  | lcgCell0 =>
    cases c with
    | lcgCell0 => exact absurd rfl h
    | _ => rfl
  | lcgCell1 =>
    cases c with
    | lcgCell1 => exact absurd rfl h
    | _ => rfl
  | _ => cases c <;> rfl

theorem sameOutside_setCell (s : State) (c : CellSel) (v : Word) :
    SameOutside (fun p => some p = cellPlace c) s (s.setCell c v) := by
  refine ⟨fun p hp => peek_setCell_of_ne hp s v, ?_, ?_, ?_⟩ <;> cases c <;> rfl

theorem sameOutside_raiseError (s : State) (code : ErrCode) :
    SameOutside (fun p => p = .err ∨ p = .busy) s (s.raiseError code) := by
  refine ⟨fun p hp => ?_, rfl, rfl, rfl⟩
  cases p with
  | err => exact absurd (.inl rfl) hp
  | busy => exact absurd (.inr rfl) hp
  | _ => rfl

theorem sameOutside_complete (s : State) : SameOutside (fun p => p = .err ∨ p = .busy) s s.complete :=
  sameOutside_raiseError s .none

theorem cell_setCell {c : CellSel} (h : c ≠ .reserved) (s : State) (v : Word) : (s.setCell c v).cell c = v := by
  cases c with
  | reserved => exact absurd rfl h
  | arg0 | lcgCell0 | lcgCell1 => rfl

@[simp] theorem cell_setResult (c : CellSel) (s : State) (v : Word) : (s.setResult v).cell c = s.cell c := rfl
@[simp] theorem cell_complete (c : CellSel) (s : State) : s.complete.cell c = s.cell c := rfl

/-- Settles O11. The frame of LCG_NEXT is put together from the frames of the updates that it makes. -/
theorem lcgNextStepsTheSelectedCell : Obligations.LcgNextStepsTheSelectedCell := by
  unfold Obligations.LcgNextStepsTheSelectedCell
  refine fun s => ⟨fun c hc => ?_, ⟨_, execLcgNext_reserved s, rfl, rfl, sameOutside_raiseError s .illegal⟩⟩
  refine ⟨_, execLcgNext_of_ne hc s, ?_, rfl, rfl, rfl, ?_⟩
  · rw [cell_complete, cell_setResult, cell_setCell hc]
  · refine ((sameOutside_noteRead ..).mono ?_).trans (((sameOutside_setCell ..).mono ?_).trans
      (((sameOutside_setResult ..).mono ?_).trans ((sameOutside_complete _).mono ?_)))
    · exact fun _ h => h.elim
    · exact fun _ h => .inl h
    · exact fun _ h => .inr (.inl h)
    · exact fun _ h => .inr (.inr h)

end Sys2Proof.Machine

namespace Sys2Proof.Machine

/-! ## 41_mt_seeding.md: the seeding commands -/

/-! ### What a seeding command leaves alone (R91, R93) -/

theorem sameOutside_loadTwister (s : State) (w : Words) (c : BitVec 10) :
    SameOutside (fun p => p.isWord ∨ p = .cursor) s (s.loadTwister w c) := by
  refine ⟨fun p hp => ?_, rfl, rfl, rfl⟩
  cases p with
  | word i => exact absurd (.inl trivial) hp
  | cursor => exact absurd (.inr rfl) hp
  | _ => rfl

theorem sameOutside_setSeeded (s : State) : SameOutside (fun p => p = .seeded) s s.setSeeded := by
  refine ⟨fun p hp => ?_, rfl, rfl, rfl⟩
  cases p with
  | seeded => exact absurd rfl hp
  | _ => rfl

/-- The frame of the updates with which MT_SEED_SCALAR and MT_SEED_ARRAY complete. -/
theorem sameOutside_seeding (s : State) (b : Bool) (w : Words) (c : BitVec 10) :
    SameOutside (fun p => p.isWord ∨ p = .cursor ∨ p = .seeded ∨ p = .err ∨ p = .busy) s
      ((s.noteRead b).loadTwister w c).setSeeded.complete := by
  refine ((sameOutside_noteRead ..).mono ?_).trans (((sameOutside_loadTwister ..).mono ?_).trans
    (((sameOutside_setSeeded _).mono ?_).trans ((sameOutside_complete _).mono ?_)))
  · exact fun _ h => h.elim
  · exact fun _ h => h.imp_right .inl
  · exact fun _ h => .inr (.inr (.inl h))
  · exact fun _ h => .inr (.inr (.inr h))

/-- Settles O13. The command loads the vector of its pass, which follows the recurrence. -/
theorem seedScalarFollowsTheRecurrence : Obligations.SeedScalarFollowsTheRecurrence := by
  unfold Obligations.SeedScalarFollowsTheRecurrence
  exact fun s => ⟨_, rfl, seedScalar_isScalarSeed s.arg0 s.words, rfl, rfl, rfl, rfl, sameOutside_seeding ..⟩

/-! ### The lengths of a key (R93, R96, R98) -/

/-- With an empty key no entry of KEY is read, not even for its ghost bit. -/
theorem exec_mtSeedArray_of_arg0_zero {s : State} (h : s.arg0 = 0#32) : exec .mtSeedArray s = exec .mtSeedScalar s := by
  have hle : s.arg0.toNat ≤ s.keyMax := by simp [h]
  refine (execMtSeedArray_of_le hle).trans ?_
  simp [exec, execMtSeedScalar, h, seedFromKey, State.keyPrefixDefined]

theorem seedFromKey_isArraySeed {L : Nat} (key : List Word) (w : Words) (hL : 1 ≤ L) :
    IsArraySeed key L (seedFromKey key L w) := by
  rw [seedFromKey, if_neg (by omega)]
  exact seedArray_isArraySeed key L w hL

/-- Settles O14. A valid length loads the vector of the two passes, an empty key acts as MT_SEED_SCALAR does (O13),
and a length above KEY_MAX only raises. -/
theorem seedArrayFollowsBothPasses : Obligations.SeedArrayFollowsBothPasses := by
  unfold Obligations.SeedArrayFollowsBothPasses
  refine fun s => ⟨fun h1 hle => ?_, fun h0 => ?_, fun hgt => ?_⟩
  · exact ⟨_, execMtSeedArray_of_le hle, seedFromKey_isArraySeed s.key s.words h1, rfl, rfl, rfl, rfl,
      sameOutside_seeding ..⟩
  · have harg : s.arg0 = 0#32 := BitVec.eq_of_toNat_eq h0
    rw [exec_mtSeedArray_of_arg0_zero harg, ← harg]
    exact seedScalarFollowsTheRecurrence s
  · refine ⟨_, execMtSeedArray_of_gt hgt, rfl, rfl, ?_⟩
    exact ((sameOutside_noteRead ..).mono fun _ h => h.elim).trans (sameOutside_raiseError ..)

theorem IsArraySeed.word_zero {key : List Word} {L : Nat} {w : Words} (h : IsArraySeed key L w) :
    wordAt w 0 = 0x80000000#32 := by
  obtain ⟨_, _, -, -, -, -, hw⟩ := h
  exact hw 0 (by decide)

/-- Settles O15, from what O14 says of a key that is not empty. -/
theorem seedArrayForcesWordZero : Obligations.SeedArrayForcesWordZero := by
  unfold Obligations.SeedArrayForcesWordZero
  intro s h1 hle
  obtain ⟨t, ht, hseed, hcursor, -⟩ := (seedArrayFollowsBothPasses s).1 h1 hle
  exact ⟨t, ht, hseed.word_zero, hcursor⟩

/-- Settles O16. With an empty key the two commands are one, and MT_SEED_SCALAR does not look at KEY. -/
theorem emptyKeySeedsLikeScalarZero : Obligations.EmptyKeySeedsLikeScalarZero := by
  unfold Obligations.EmptyKeySeedsLikeScalarZero
  intro s k h
  obtain ⟨t, ht, hseed, hcursor, hseeded, -⟩ := seedScalarFollowsTheRecurrence s
  rw [h] at hseed
  refine ⟨t, (exec_mtSeedArray_of_arg0_zero h).trans ht, ht, hseed, hcursor, hseeded, ?_⟩
  rw [exec_mtSeedArray_of_arg0_zero (s := { s with key := k }) h, ← next_inj ht]
  rfl

/-! ### The operands determine the seeded vector (R99) -/

theorem IsSeedStep.unique {i : Nat} {x : Word} {w w₁ w₂ : Words} (h₁ : IsSeedStep i x w w₁)
    (h₂ : IsSeedStep i x w w₂) : w₁ = w₂ :=
  words_ext fun k hk => (h₁ k hk).trans (h₂ k hk).symm

/-- Two sequences of seeding steps from one vector, with the positions and the value rule in common, end in one
vector. -/
theorem seedSteps_unique {pos : Nat → Nat} {val : Nat → Words → Word} {N : Nat} {v v' : Nat → Words}
    (h0 : v 0 = v' 0) (h : ∀ n, n < N → IsSeedStep (pos n) (val n (v n)) (v n) (v (n + 1)))
    (h' : ∀ n, n < N → IsSeedStep (pos n) (val n (v' n)) (v' n) (v' (n + 1))) : v N = v' N := by
  induction N with
  | zero => exact h0
  | succ N ih =>
    have hN : v N = v' N := ih (fun n hn => h n (hn.trans N.lt_succ_self)) fun n hn => h' n (hn.trans N.lt_succ_self)
    have hstep := h N N.lt_succ_self
    rw [hN] at hstep
    exact hstep.unique (h' N N.lt_succ_self)

/-- Only the first `L` entries of KEY enter the passes, since the key index is a residue modulo `L`. -/
theorem IsArraySeed.congr_key {key key' : List Word} {L : Nat} {w : Words} (h : IsArraySeed key L w) (hL : 1 ≤ L)
    (hkey : ∀ j, j < L → keyAt key j = keyAt key' j) : IsArraySeed key' L w := by
  obtain ⟨v, u, hv0, hv, hrest⟩ := h
  refine ⟨v, u, hv0, fun n hn => ?_, hrest⟩
  simpa only [hkey _ (Nat.mod_lt n hL)] using hv n hn

/-- The position at which a pass works in its step `n`, counted from position 1 (R92, R97). -/
def seedPosition (n : Nat) : Nat := 1 + n % 623

/-- The word that step `n` of pass 1 stores in the vector `w`, as in `IsArraySeed`. -/
def pass1Word (key : List Word) (L n : Nat) (w : Words) : Word :=
  (wordAt w (seedPosition n) ^^^ (mix30 (wordAt w (seedPosition n - 1)) * 1664525#32))
    + keyAt key (n % L) + u32 (n % L)

/-- The word that a step of pass 2 stores in the vector `w`, with `n` counted from the start of pass 1. -/
def pass2Word (n : Nat) (w : Words) : Word :=
  (wordAt w (seedPosition n) ^^^ (mix30 (wordAt w (seedPosition n - 1)) * 1566083941#32)) - u32 (seedPosition n)

/-- The two passes have one outcome for each key. -/
theorem IsArraySeed.unique {key : List Word} {L : Nat} {w w' : Words} (h : IsArraySeed key L w)
    (h' : IsArraySeed key L w') : w = w' := by
  obtain ⟨v, u, hv0, hv, hu0, hu, hw⟩ := h
  obtain ⟨v', u', hv0', hv', hu0', hu', hw'⟩ := h'
  have hpass1 : v (max 624 L) = v' (max 624 L) :=
    seedSteps_unique (pos := seedPosition) (val := pass1Word key L) (isScalarSeed_unique hv0 hv0') hv hv'
  have hpass2 : u 623 = u' 623 :=
    seedSteps_unique (pos := fun n => seedPosition (max 624 L + n)) (val := fun n => pass2Word (max 624 L + n))
      (hu0.trans (hpass1.trans hu0'.symm)) hu hu'
  apply words_ext
  intro k hk
  rw [hw k hk, hw' k hk, hpass2]

/-- Neither the vector before nor KEY from `L` on plays a part. -/
theorem seedFromKey_congr {key key' : List Word} {L : Nat} (hkey : ∀ j, j < L → keyAt key j = keyAt key' j)
    (w w' : Words) : seedFromKey key L w = seedFromKey key' L w' := by
  by_cases hL : L = 0
  · simp only [seedFromKey, hL, if_true]
    exact seedScalar_congr 0 w w'
  · have h1 : 1 ≤ L := Nat.one_le_iff_ne_zero.mpr hL
    exact ((seedFromKey_isArraySeed key w h1).congr_key h1 hkey).unique (seedFromKey_isArraySeed key' w' h1)

/-! ### Words and cursor determine what is drawn (R99; 10_state.md R34) -/

theorem regenerate_words (s : State) :
    s.regenerate.words = if 624 ≤ s.cursor.toNat then twist s.words else s.words := by
  unfold State.regenerate
  split <;> rfl

theorem regenerate_cursor (s : State) : s.regenerate.cursor = if 624 ≤ s.cursor.toNat then 0#10 else s.cursor := by
  unfold State.regenerate
  split <;> rfl

@[simp] theorem State.draw_words (s : State) : s.draw.words = s.words := rfl
@[simp] theorem State.draw_cursor (s : State) : s.draw.cursor = s.cursor + 1#10 := rfl
@[simp] theorem State.draw_result (s : State) : s.draw.result = temper (wordAt s.words s.cursor.toNat) := rfl

/-- MT_NEXT from two states with one twister draws one value and leaves one twister. -/
theorem exec_mtNext_congr {s₁ s₂ t₁ t₂ : State} (hw : s₁.words = s₂.words) (hc : s₁.cursor = s₂.cursor)
    (h₁ : exec .mtNext s₁ = .next t₁) (h₂ : exec .mtNext s₂ = .next t₂) :
    t₁.result = t₂.result ∧ t₁.words = t₂.words ∧ t₁.cursor = t₂.cursor := by
  have hwords : s₁.regenerate.words = s₂.regenerate.words := by rw [regenerate_words, regenerate_words, hw, hc]
  have hcursor : s₁.regenerate.cursor = s₂.regenerate.cursor := by rw [regenerate_cursor, regenerate_cursor, hc]
  rw [← next_inj h₁, ← next_inj h₂]
  simp [hwords, hcursor]

/-- Two runs of MT_NEXT that start with one twister keep one twister. -/
theorem Draws.twister_eq {f g : Nat → State} (hf : Draws f) (hg : Draws g) (hw : (f 0).words = (g 0).words)
    (hc : (f 0).cursor = (g 0).cursor) (k : Nat) : (f k).words = (g k).words ∧ (f k).cursor = (g k).cursor := by
  induction k with
  | zero => exact ⟨hw, hc⟩
  | succ k ih => exact (exec_mtNext_congr ih.1 ih.2 (hf k) (hg k)).2

theorem Draws.result_eq {f g : Nat → State} (hf : Draws f) (hg : Draws g) (hw : (f 0).words = (g 0).words)
    (hc : (f 0).cursor = (g 0).cursor) (k : Nat) : (f (k + 1)).result = (g (k + 1)).result := by
  obtain ⟨hwk, hck⟩ := hf.twister_eq hg hw hc k
  exact (exec_mtNext_congr hwk hck (hf k) (hg k)).1

/-- Settles O18. Each command loads a vector that its operands determine, with the cursor at 624, and the draws
follow from these two. -/
theorem seedingDependsOnlyOnItsOperands : Obligations.SeedingDependsOnlyOnItsOperands := by
  unfold Obligations.SeedingDependsOnlyOnItsOperands
  intro i s₁ s₂ harg hi
  -- The cursors go by `simp`: `rfl` on the two states compares the vectors first, and unrolls the passes.
  have htwister : ∃ t₁ t₂, exec i s₁ = .next t₁ ∧ exec i s₂ = .next t₂ ∧ t₁.words = t₂.words
      ∧ t₁.cursor = t₂.cursor := by
    obtain rfl | rfl | ⟨rfl, hle₁, hle₂, hkey⟩ := hi
    case inl =>
      refine ⟨_, _, rfl, rfl, ?_, by simp⟩
      change seedScalar s₁.arg0 s₁.words = seedScalar s₂.arg0 s₂.words
      rw [harg]
      exact seedScalar_congr ..
    case inr.inl => exact ⟨_, _, rfl, rfl, seedScalar_congr 5489#32 s₁.words s₂.words, by simp⟩
    case inr.inr =>
      refine ⟨_, _, execMtSeedArray_of_le hle₁, execMtSeedArray_of_le hle₂, ?_, by simp⟩
      change seedFromKey s₁.key s₁.arg0.toNat s₁.words = seedFromKey s₂.key s₂.arg0.toNat s₂.words
      rw [← harg]
      exact seedFromKey_congr hkey ..
  obtain ⟨t₁, t₂, h₁, h₂, hw, hc⟩ := htwister
  refine ⟨t₁, t₂, h₁, h₂, hw, hc, ?_⟩
  rintro f g rfl rfl hf hg
  exact hf.result_eq hg hw hc

end Sys2Proof.Machine

namespace Sys2Proof.Machine

/-! ## 42_mt_generation.md: what MT_NEXT draws -/

/-! ### MT_NEXT on the twister, and its result (R110) -/

section
variable {s t : State}

theorem exec_mtNext_twister_of_lt (hc : s.cursor.toNat < 624) (h : exec .mtNext s = .next t) :
    t.words = s.words ∧ t.cursor.toNat = s.cursor.toNat + 1 := by
  rw [execMtNext_of_lt hc h]
  refine ⟨rfl, ?_⟩
  rw [State.complete_cursor, State.draw_cursor]
  bv_omega

theorem exec_mtNext_twister_of_ge (hc : 624 ≤ s.cursor.toNat) (h : exec .mtNext s = .next t) :
    t.words = twist s.words ∧ t.cursor.toNat = 1 := by
  rw [execMtNext_of_ge hc h]
  exact ⟨rfl, rfl⟩

/-- RESULT is read off the twister that MT_NEXT leaves: the cursor has just moved past the element drawn. -/
theorem exec_mtNext_result (h : exec .mtNext s = .next t) :
    t.result = temper (wordAt t.words (t.cursor.toNat - 1)) := by
  by_cases hc : s.cursor.toNat < 624
  · obtain ⟨hwords, hcursor⟩ := exec_mtNext_twister_of_lt hc h
    rw [hwords, hcursor, execMtNext_of_lt hc h]
    rfl
  · obtain ⟨hwords, hcursor⟩ := exec_mtNext_twister_of_ge (Nat.le_of_not_lt hc) h
    rw [hwords, hcursor, execMtNext_of_ge (Nat.le_of_not_lt hc) h]
    rfl

end

theorem temper_isTempered (y : Word) : IsTempered y (temper y) := ⟨_, _, _, rfl, rfl, rfl, rfl⟩

/-! ### What MT_NEXT leaves alone (R110, R114) -/

theorem sameOutside_setCursor (s : State) (c : BitVec 10) : SameOutside (fun p => p = .cursor) s (s.setCursor c) := by
  refine ⟨fun p hp => ?_, rfl, rfl, rfl⟩
  cases p with
  | cursor => exact absurd rfl hp
  | _ => rfl

theorem sameOutside_draw_complete (s : State) :
    SameOutside (fun p => p = .cursor ∨ p = .result ∨ p = .err ∨ p = .busy) s s.draw.complete := by
  refine ((sameOutside_noteRead ..).mono ?_).trans (((sameOutside_setResult ..).mono ?_).trans
    (((sameOutside_setCursor ..).mono ?_).trans ((sameOutside_complete _).mono ?_)))
  · exact fun _ h => h.elim
  · exact fun _ h => .inr (.inl h)
  · exact fun _ h => .inl h
  · exact fun _ h => .inr (.inr h)

theorem sameOutside_regenerate (s : State) : SameOutside (fun p => p.isWord ∨ p = .cursor) s s.regenerate := by
  unfold State.regenerate
  split
  · exact ((sameOutside_noteRead ..).mono fun _ h => h.elim).trans (sameOutside_loadTwister ..)
  · exact ⟨fun _ _ => rfl, rfl, rfl, rfl⟩

theorem regenerate_with_seeded (s : State) (b : Bool) :
    State.regenerate { s with seeded := b } = { s.regenerate with seeded := b } := by
  by_cases hc : 624 ≤ s.cursor.toNat
  · rw [regenerate_of_ge hc, regenerate_of_ge (s := { s with seeded := b }) hc]
    rfl
  · rw [regenerate_of_lt (Nat.lt_of_not_le hc), regenerate_of_lt (s := { s with seeded := b }) (Nat.lt_of_not_le hc)]

theorem exec_mtNext_with_seeded {s t : State} (b : Bool) (h : exec .mtNext s = .next t) :
    exec .mtNext { s with seeded := b } = .next { t with seeded := b } := by
  rw [← next_inj h, exec, execMtNext, regenerate_with_seeded]
  rfl

/-- Settles O19. An exhausted vector is first replaced by its twist; the rest of the command is the draw, whatever
SEEDED is. -/
theorem mtNextRegeneratesAndDraws : Obligations.MtNextRegeneratesAndDraws := by
  unfold Obligations.MtNextRegeneratesAndDraws
  intro s
  have hexec : exec .mtNext s = .next s.regenerate.draw.complete := rfl
  refine ⟨fun hc => ?_, fun hc => ?_, fun b t h => exec_mtNext_with_seeded b h⟩
  · obtain ⟨hwords, hcursor⟩ := exec_mtNext_twister_of_lt hc hexec
    refine ⟨_, hexec, hcursor, ?_, rfl, rfl, ?_⟩
    · rw [exec_mtNext_result hexec, hwords, hcursor]
      exact temper_isTempered _
    · rw [regenerate_of_lt hc]
      exact sameOutside_draw_complete s
  · obtain ⟨hwords, hcursor⟩ := exec_mtNext_twister_of_ge hc hexec
    refine ⟨_, hexec, hwords ▸ twist_isTwist s.words, hcursor, ?_, rfl, rfl, ?_⟩
    · rw [exec_mtNext_result hexec, hcursor]
      exact temper_isTempered _
    · exact ((sameOutside_regenerate s).mono fun _ h => h.imp_right .inl).trans
        ((sameOutside_draw_complete _).mono fun _ h => .inr h)

/-! ### The cursor sequence (R111) -/

theorem seeding_cursor {i : Instr} {s t : State} (hi : i = .mtSeedScalar ∨ i = .mtSeedArray ∨ i = .bootstrap)
    (h : exec i s = .next t) (herr : t.err = .none) : t.cursor = 624#10 := by
  obtain rfl | rfl | rfl := hi
  case inl | inr.inr => rw [← next_inj h]; simp
  case inr.inl =>
    by_cases hL : s.arg0.toNat ≤ s.keyMax
    · rw [← next_inj ((execMtSeedArray_of_le hL).symm.trans h)]
      simp
    · rw [← next_inj ((execMtSeedArray_of_gt (Nat.lt_of_not_le hL)).symm.trans h)] at herr
      cases herr

/-- The twister after `k + 1` draws from an exhausted vector: the pass runs when `k` reaches a multiple of 624. -/
theorem Draws.twister_of_exhausted {f : Nat → State} (hf : Draws f) (hc : (f 0).cursor = 624#10) (k : Nat) :
    (f (k + 1)).words = twist^[k / 624 + 1] (f 0).words ∧ (f (k + 1)).cursor.toNat = k % 624 + 1 := by
  induction k with
  | zero => exact exec_mtNext_twister_of_ge (by rw [hc]; decide) (hf 0)
  | succ k ih =>
    obtain ⟨ihw, ihc⟩ := ih
    by_cases hk : k % 624 = 623
    · obtain ⟨hwords, hcursor⟩ := exec_mtNext_twister_of_ge (by omega) (hf (k + 1))
      have hdiv : (k + 1) / 624 = k / 624 + 1 := by omega
      rw [hwords, hcursor, ihw, hdiv, ← Function.iterate_succ_apply' twist]
      exact ⟨rfl, by omega⟩
    · obtain ⟨hwords, hcursor⟩ := exec_mtNext_twister_of_lt (by omega) (hf (k + 1))
      have hdiv : (k + 1) / 624 = k / 624 := by omega
      rw [hwords, hcursor, ihw, ihc, hdiv]
      exact ⟨rfl, by omega⟩

/-- Settles O20. The twister follows by induction on the number of draws, and each result is read off it. -/
theorem outputSequenceAfterSeeding : Obligations.OutputSequenceAfterSeeding := by
  unfold Obligations.OutputSequenceAfterSeeding
  refine ⟨fun i s t hi h herr => seeding_cursor hi h herr, fun f hf hc k hk => ?_⟩
  obtain ⟨k, rfl⟩ := Nat.exists_eq_add_of_le' hk
  obtain ⟨hwords, hcursor⟩ := hf.twister_of_exhausted hc k
  have hpasses : (k + 1 + 623) / 624 = k / 624 + 1 := by omega
  refine ⟨by rw [hwords, hpasses], hcursor, ?_⟩
  rw [exec_mtNext_result (hf k), hcursor, Nat.add_sub_cancel, Nat.add_sub_cancel]

/-! ### The all-zero vector (R115, R117) -/

theorem AllZero.word_eq_zero {w : Words} (hz : AllZero w) (k : Nat) : wordAt w k = 0#32 := by
  rw [← wordAt_mod]
  exact hz _ (Nat.mod_lt k (by decide))

/-- In ascending order, since the pass also reads elements that it has already written. -/
theorem IsTwist.allZero {w w' : Words} (h : IsTwist w w') (hz : AllZero w) : AllZero w' := by
  intro i
  induction i using Nat.strong_induction_on with
  | _ i ih =>
    intro hi
    have hfar : (if i < 227 then wordAt w (i + 397) else wordAt w' (i - 227)) = 0#32 := by
      split
      · exact hz.word_eq_zero _
      · exact ih _ (by omega) (by omega)
    have hnext : (if i < 623 then wordAt w (i + 1) else wordAt w' 0) = 0#32 := by
      split
      · exact hz.word_eq_zero _
      · exact ih 0 (by omega) (by decide)
    have hword := h i hi
    simp only [hfar, hnext, hz i hi] at hword
    rw [hword]
    rfl

theorem temper_zero : temper 0#32 = 0#32 := by decide

theorem exec_mtNext_allZero {s t : State} (hz : AllZero s.words) (h : exec .mtNext s = .next t) :
    AllZero t.words := by
  by_cases hc : s.cursor.toNat < 624
  · rw [(exec_mtNext_twister_of_lt hc h).1]
    exact hz
  · rw [(exec_mtNext_twister_of_ge (Nat.le_of_not_lt hc) h).1]
    exact (twist_isTwist s.words).allZero hz

theorem Draws.allZero {f : Nat → State} (hf : Draws f) (hz : AllZero (f 0).words) (k : Nat) :
    AllZero (f k).words := by
  induction k with
  | zero => exact hz
  | succ k ih => exact exec_mtNext_allZero ih (hf k)

/-- Settles O23. Every MT_NEXT keeps the all-zero vector, so each draws the tempered word 0; it never raises. -/
theorem zeroVectorDrawsZeroForever : Obligations.ZeroVectorDrawsZeroForever := by
  unfold Obligations.ZeroVectorDrawsZeroForever
  refine ⟨fun w hz => (twist_isTwist w).allZero hz, temper_zero, fun f hf hz k => ⟨hf.allZero hz k, ?_, ?_⟩⟩
  · rw [exec_mtNext_result (hf k), (hf.allZero hz (k + 1)).word_eq_zero, temper_zero]
  · rw [← next_inj (hf k)]
    rfl

end Sys2Proof.Machine

namespace Sys2Proof.Machine

/-! ## 43_bootstrap.md: the time fold and BOOTSTRAP -/

/-! ### The time fold (R130) -/

/-- The range of the fold is the set of seeds whose streams never stall (R132). -/
theorem foldTime_mem_liveSeeds (t : Word) : foldTime t ∈ liveSeeds := by
  change 1 ≤ (foldTime t).toNat ∧ (foldTime t).toNat ≤ 0x7FFFFFFE
  rw [foldTime_toNat]
  omega

/-- Settles O26. The loop leaves the remainder, and a remainder plus 1 is in 1 to the modulus. -/
theorem timeFoldIsTheRemainderPlusOne : Obligations.TimeFoldIsTheRemainderPlusOne := by
  unfold Obligations.TimeFoldIsTheRemainderPlusOne
  exact fun t => ⟨foldTime_toNat t, foldTime_mem_liveSeeds t⟩

/-! ### The updates that BOOTSTRAP makes (R131) -/

/-- The updates of R131, for any folded time `c` and any vector `w`. -/
def State.bootstrapWith (c : Word) (w : Words) (s : State) : State :=
  ((((((s.noteRead s.ghost.arg0).setLcgCell0 15937#32).setLcgCell1 c).loadTwister w 624#10).setHoldrand
    2345678#32).setSeeded).complete

theorem exec_bootstrap (s : State) :
    exec .bootstrap s = .next (s.bootstrapWith (foldTime s.arg0) (seedScalar 5489#32 s.words)) := rfl

section
variable (s : State) (c : Word) (w : Words)

@[simp] theorem State.bootstrapWith_words : (s.bootstrapWith c w).words = w := rfl
@[simp] theorem State.bootstrapWith_cursor : (s.bootstrapWith c w).cursor = 624#10 := rfl
@[simp] theorem State.bootstrapWith_lcgCell0 : (s.bootstrapWith c w).lcgCell0 = 15937#32 := rfl
@[simp] theorem State.bootstrapWith_lcgCell1 : (s.bootstrapWith c w).lcgCell1 = c := rfl
@[simp] theorem State.bootstrapWith_holdrand : (s.bootstrapWith c w).holdrand = 2345678#32 := rfl
@[simp] theorem State.bootstrapWith_seeded : (s.bootstrapWith c w).seeded = true := rfl
@[simp] theorem State.bootstrapWith_err : (s.bootstrapWith c w).err = .none := rfl
@[simp] theorem State.bootstrapWith_busy : (s.bootstrapWith c w).busy = false := rfl
@[simp] theorem State.bootstrapWith_arg0 : (s.bootstrapWith c w).arg0 = s.arg0 := rfl

end

theorem sameOutside_setHoldrand (s : State) (v : Word) :
    SameOutside (fun p => p = .holdrand) s (s.setHoldrand v) := by
  refine ⟨fun p hp => ?_, rfl, rfl, rfl⟩
  cases p with
  | holdrand => exact absurd rfl hp
  | _ => rfl

/-- The two LCG cells are those that LCG_NEXT can select, so their frames are `setCell`'s. -/
theorem sameOutside_setLcgCells (s : State) (a b : Word) :
    SameOutside (fun p => p = .lcgCell0 ∨ p = .lcgCell1) s ((s.setLcgCell0 a).setLcgCell1 b) :=
  ((sameOutside_setCell s .lcgCell0 a).mono fun _ h => .inl (Option.some_inj.mp h)).trans
    ((sameOutside_setCell (s.setLcgCell0 a) .lcgCell1 b).mono fun _ h => .inr (Option.some_inj.mp h))

theorem sameOutside_bootstrapWith (s : State) (c : Word) (w : Words) :
    SameOutside (fun p => p.isWord ∨ p = .cursor ∨ p = .lcgCell0 ∨ p = .lcgCell1 ∨ p = .holdrand ∨ p = .seeded
      ∨ p = .err ∨ p = .busy) s (s.bootstrapWith c w) := by
  refine ((sameOutside_noteRead ..).mono ?_).trans (((sameOutside_setLcgCells ..).mono ?_).trans
    (((sameOutside_loadTwister ..).mono ?_).trans (((sameOutside_setHoldrand ..).mono ?_).trans
      (((sameOutside_setSeeded _).mono ?_).trans ((sameOutside_complete _).mono ?_)))))
  all_goals
    intro p hp
    tauto

/-- Settles O27. The vector is the scalar seed of 5489, cell 1 the folded time, and the frame is that of the updates. -/
theorem bootstrapInitialisesTheBlock : Obligations.BootstrapInitialisesTheBlock := by
  unfold Obligations.BootstrapInitialisesTheBlock
  exact fun s => ⟨_, exec_bootstrap s, rfl, foldTime_toNat s.arg0, seedScalar_isScalarSeed 5489#32 s.words, rfl, rfl,
    rfl, rfl, rfl, sameOutside_bootstrapWith ..⟩

/-! ### BOOTSTRAP's streams (R132) -/

theorem iterate_lcg31_ne_zero {v : Word} (hv : v ∈ liveSeeds) (n : Nat) : lcg31^[n] v ≠ 0#32 := by
  intro h0
  have hlive : 1 ≤ (lcg31^[n] v).toNat := (lcg31_mapsTo_liveSeeds.iterate n hv).1
  rw [h0] at hlive
  exact absurd hlive (by decide)

/-- Settles O28. Both cells are live seeds, and the step maps live seeds to live seeds. -/
theorem bootstrapStreamsNeverStall : Obligations.BootstrapStreamsNeverStall := by
  unfold Obligations.BootstrapStreamsNeverStall
  intro s
  have hcell1 : foldTime s.arg0 ∈ liveSeeds := foldTime_mem_liveSeeds s.arg0
  have hcell0 : 15937#32 ∈ liveSeeds := ⟨by decide, by decide⟩
  exact ⟨_, exec_bootstrap s, hcell1, hcell0, fun n =>
    ⟨iterate_lcg31_ne_zero hcell1 n, iterate_lcg31_ne_zero hcell0 n⟩⟩

/-! ### A repeated BOOTSTRAP (R133) -/

/-- The second updates overwrite the first; the mark of an unspecified read is noted of one ARG0 both times. -/
theorem bootstrapWith_bootstrapWith (s : State) (c c' : Word) (w w' : Words) :
    (s.bootstrapWith c w).bootstrapWith c' w' = s.bootstrapWith c' w' := by
  simp [State.bootstrapWith, State.noteRead, State.setLcgCell0, State.setLcgCell1, State.loadTwister,
    State.setHoldrand, State.setSeeded, State.complete]

theorem exec_bootstrap_idem {s t : State} (h : exec .bootstrap s = .next t) : exec .bootstrap t = .next t := by
  rw [exec_bootstrap] at h
  rw [← next_inj h, exec_bootstrap, bootstrapWith_bootstrapWith, State.bootstrapWith_arg0, State.bootstrapWith_words,
    seedScalar_congr 5489#32 _ s.words]

/-- Settles O29. What BOOTSTRAP writes depends on ARG0 alone, which it leaves as it was. -/
theorem repeatedBootstrapActsInFull : Obligations.RepeatedBootstrapActsInFull := by
  unfold Obligations.RepeatedBootstrapActsInFull
  refine ⟨fun s t h => exec_bootstrap_idem h, fun s s' harg => ?_⟩
  refine ⟨_, _, exec_bootstrap s, exec_bootstrap s', ?_⟩
  rw [harg, seedScalar_congr 5489#32 s.words s'.words]
  simp

end Sys2Proof.Machine

namespace Sys2Proof.Machine

/-! ## 44_state_access.md: reading and writing the vector, the cursor and the key -/

/-! ### How an access ends: with its update and without error, or with RANGE alone (R140) -/

/-- Noting a read marks only a ghost bit, so it adds nothing to a frame. -/
theorem SameOutside.of_noteRead {P : Place → Prop} {s t : State} {b : Bool} (h : SameOutside P (s.noteRead b) t) :
    SameOutside P s t :=
  ((sameOutside_noteRead s b).mono fun _ hp => hp.elim).trans h

/-- Completion adds ERR and BUSY to what an update changes. -/
theorem SameOutside.complete {P : Place → Prop} {s t : State} (h : SameOutside P s t) :
    SameOutside (fun p => P p ∨ p = .err ∨ p = .busy) s t.complete :=
  (h.mono fun _ => .inl).trans ((sameOutside_complete t).mono fun _ => .inr)

section
variable {o : Out} {s : State} {b : Bool}

theorem range_outcome (h : o = .next ((s.noteRead b).raiseError .range)) :
    ∃ t, o = .next t ∧ t.err = .range ∧ t.busy = false ∧ SameOutside (fun p => p = .err ∨ p = .busy) s t :=
  ⟨_, h, rfl, rfl, (sameOutside_raiseError ..).of_noteRead⟩

theorem read_outcome {v : Word} (h : o = .next ((s.noteRead b).setResult v).complete) :
    ∃ t, o = .next t ∧ t.result = v ∧ t.err = .none ∧ t.busy = false
      ∧ SameOutside (fun p => p = .result ∨ p = .err ∨ p = .busy) s t :=
  ⟨_, h, rfl, rfl, rfl, (sameOutside_setResult ..).complete.of_noteRead⟩

end

/-! ### Elements of the vector (R141, R142) -/

theorem sameOutside_setWord (s : State) (i : Fin 624) (v : Word) :
    SameOutside (fun p => p = .word i) s (s.setWord i v) := by
  refine ⟨fun p hp => ?_, rfl, rfl, rfl⟩
  cases p with
  | word k =>
    have hne : k.val ≠ i.val := fun h => hp (congrArg Place.word (Fin.ext h))
    exact congrArg BitVec.toNat (wordAt_setWordAt_ne v i.isLt k.isLt hne)
  | _ => rfl

/-- Settles O30, by the range check on ARG0. -/
theorem wordReadReturnsTheElement : Obligations.WordReadReturnsTheElement := by
  unfold Obligations.WordReadReturnsTheElement
  exact fun s => ⟨fun h => read_outcome (execMtWordRead_of_le h), fun h => range_outcome (execMtWordRead_of_gt h)⟩

/-- Settles O31. The write reaches the element that ARG0 selects, and the frame of one element is that of the
write. -/
theorem wordWriteStoresOneElement : Obligations.WordWriteStoresOneElement := by
  unfold Obligations.WordWriteStoresOneElement
  refine fun s => ⟨fun i hi => ?_, fun h => range_outcome (execMtWordWrite_of_gt h)⟩
  have hexec := execMtWordWrite_of_le (s := s) (by omega)
  rw [hi] at hexec
  exact ⟨_, hexec, wordAt_setWordAt_same .., rfl, rfl, (sameOutside_setWord ..).complete.of_noteRead⟩

/-! ### The cursor (R143, R144) -/

theorem exec_mtCursorRead (s : State) :
    exec .mtCursorRead s = .next (s.setResult (s.cursor.setWidth 32)).complete := rfl

/-- RESULT is wide enough for the 10 bits of the cursor. -/
theorem toNat_setWidth_cursor (c : BitVec 10) : (c.setWidth 32).toNat = c.toNat :=
  BitVec.toNat_setWidth_of_le (by decide)

/-- Settles O32. RESULT takes the cursor without loss. -/
theorem cursorReadReturnsTheCursor : Obligations.CursorReadReturnsTheCursor := by
  unfold Obligations.CursorReadReturnsTheCursor
  exact fun s => ⟨_, exec_mtCursorRead s, toNat_setWidth_cursor s.cursor, rfl, rfl,
    (sameOutside_setResult ..).complete⟩

/-- The 10 bits of the stored cursor hold every operand that passes the range check (R21). -/
theorem toNat_cursorBits {v : Word} (h : v.toNat ≤ 624) : (v.extractLsb' 0 10).toNat = v.toNat := by
  rw [BitVec.extractLsb'_toNat, Nat.shiftRight_zero, Nat.mod_eq_of_lt (by omega)]

theorem sameOutside_setCursor_setSeeded (s : State) (c : BitVec 10) :
    SameOutside (fun p => p = .cursor ∨ p = .seeded) s (s.setCursor c).setSeeded :=
  ((sameOutside_setCursor s c).mono fun _ => .inl).trans ((sameOutside_setSeeded _).mono fun _ => .inr)

/-- Settles O33, by the range check on ARG0. -/
theorem cursorWriteSetsCursorAndSeeded : Obligations.CursorWriteSetsCursorAndSeeded := by
  unfold Obligations.CursorWriteSetsCursorAndSeeded
  refine fun s => ⟨fun h => ?_, fun h => range_outcome (execMtCursorWrite_of_gt h)⟩
  refine ⟨_, execMtCursorWrite_of_le h, toNat_cursorBits h, rfl, rfl, rfl, ?_⟩
  exact (sameOutside_setCursor_setSeeded ..).complete.of_noteRead.mono fun _ => or_assoc.mp

/-! ### The key buffer (R145, R146) -/

theorem keyAt_set_same {key : List Word} {j : Nat} (v : Word) (hj : j < key.length) : keyAt (key.set j v) j = v := by
  rw [keyAt_set key j j v hj, if_pos rfl]

theorem sameOutside_setKey {s : State} {j : Nat} (hj : j < s.keyMax) (v : Word) :
    SameOutside (fun p => p = .key j) s (s.setKey j v) := by
  refine ⟨fun p hp => ?_, State.setKey_keyMax s j v, rfl, rfl⟩
  cases p with
  | key k =>
    have hne : k ≠ j := fun h => hp (congrArg Place.key h)
    exact congrArg BitVec.toNat ((keyAt_set s.key j k v hj).trans (if_neg hne))
  | _ => rfl

/-- Settles O34, by the range check on ARG0, which keeps the write inside the buffer. -/
theorem keyWriteStoresOneEntry : Obligations.KeyWriteStoresOneEntry := by
  unfold Obligations.KeyWriteStoresOneEntry
  refine fun s hmax => ⟨fun h => ?_, fun h => range_outcome (execKeyWrite_of_ge (by omega))⟩
  have hlt : s.arg0.toNat < s.keyMax := by omega
  exact ⟨_, execKeyWrite_of_lt hlt, keyAt_set_same s.arg1 hlt, rfl, rfl,
    (sameOutside_setKey (s := s.noteRead _) hlt s.arg1).complete.of_noteRead⟩

/-- Settles O35, by the range check on ARG0. -/
theorem keyReadReturnsTheEntry : Obligations.KeyReadReturnsTheEntry := by
  unfold Obligations.KeyReadReturnsTheEntry
  exact fun s hmax => ⟨fun h => read_outcome (execKeyRead_of_lt (by omega)),
    fun h => range_outcome (execKeyRead_of_ge (by omega))⟩

/-! ### Snapshots (R147) -/

/-- One access of a snapshot: the host writes an index to ARG0 and runs MT_WORD_READ. -/
theorem exec_mtWordRead_setArg0 {s t : State} {k : Nat} (hk : k < 624)
    (h : exec .mtWordRead (s.setArg0 (u32 k)) = .next t) :
    t.result = wordAt s.words k ∧ t.words = s.words ∧ t.cursor = s.cursor := by
  have harg : (s.setArg0 (u32 k)).arg0.toNat = k := by
    rw [State.setArg0_arg0, BitVec.toNat_ofNat, Nat.mod_eq_of_lt (by omega)]
  rw [← next_inj ((execMtWordRead_of_le (by omega)).symm.trans h), harg]
  exact ⟨rfl, rfl, rfl⟩

/-- The twister stays that of the start throughout a snapshot. -/
theorem snapshot_keeps_twister {f : Nat → State}
    (hf : ∀ k, k < 624 → exec .mtWordRead ((f k).setArg0 (u32 k)) = .next (f (k + 1))) {k : Nat} (hk : k ≤ 624) :
    (f k).words = (f 0).words ∧ (f k).cursor = (f 0).cursor := by
  induction k with
  | zero => exact ⟨rfl, rfl⟩
  | succ k ih =>
    obtain ⟨hwords, hcursor⟩ := ih (by omega)
    obtain ⟨-, hwords', hcursor'⟩ := exec_mtWordRead_setArg0 hk (hf k hk)
    exact ⟨hwords'.trans hwords, hcursor'.trans hcursor⟩

/-- Settles O36. Each read returns an element of the state that it reads, which has the vector and the cursor of the
start. -/
theorem snapshotReturnsTheStateAtItsStart : Obligations.SnapshotReturnsTheStateAtItsStart := by
  unfold Obligations.SnapshotReturnsTheStateAtItsStart
  intro f hf
  constructor
  · intro k hk
    obtain ⟨hwords, -⟩ := snapshot_keeps_twister hf hk.le
    obtain ⟨hresult, -, -⟩ := exec_mtWordRead_setArg0 hk (hf k hk)
    rw [hresult, hwords]
  · obtain ⟨hwords, hcursor⟩ := snapshot_keeps_twister hf (Nat.le_refl 624)
    exact ⟨_, exec_mtCursorRead _, (toNat_setWidth_cursor _).trans (congrArg _ hcursor), hwords, hcursor⟩

end Sys2Proof.Machine

namespace Sys2Proof.Machine

/-! ## 60_exceptions.md: the two errors -/

/-! ### How a well-formed command ends (R160, R163) -/

/-- A well-formed command ends without error or raises RANGE, by the check that it makes of ARG0. That check is R163's
condition except on a key buffer without entries, which has no valid index where R163's bound, on naturals, is 0. -/
theorem exec_completes_or_raises_range {i : Instr} (hwf : i.wf = true) (s : State) :
    (¬ RangeCondition i s ∧ ∃ t, exec i s = .next t ∧ t.err = .none ∧ t.busy = false)
    ∨ ((1 ≤ s.keyMax → RangeCondition i s) ∧ exec i s = .next ((s.noteRead s.ghost.arg0).raiseError .range)) := by
  cases i with
  | lcgNext c =>
    have hc : c ≠ .reserved := fun h => by simp [h, Instr.wf] at hwf
    exact .inl ⟨id, _, execLcgNext_of_ne hc s, rfl, rfl⟩
  | mtSeedScalar | mtNext | bootstrap | mtCursorRead => exact .inl ⟨id, _, rfl, rfl, rfl⟩
  | mtSeedArray | mtWordRead | mtWordWrite | mtCursorWrite | keyWrite | keyRead =>
    simp only [exec, execMtSeedArray, execMtWordRead, execMtWordWrite, execMtCursorWrite, execKeyWrite, execKeyRead,
      keyLengthOk_iff, wordIndexOk_iff, cursorOk_iff, keyIndexOk_iff, RangeCondition]
    split_ifs with hok
    · exact .inl ⟨by omega, _, rfl, rfl, rfl⟩
    · exact .inr ⟨by omega, rfl⟩

/-- Settles O38. Where KEY_MAX is at least 1, the check that decides between the two ends is R163's condition. -/
theorem rangeArisesExactlyWhenAnOperandIsOut : Obligations.RangeArisesExactlyWhenAnOperandIsOut := by
  unfold Obligations.RangeArisesExactlyWhenAnOperandIsOut
  intro i s hwf hmax
  obtain ⟨hin, t, hexec, herr, -⟩ | ⟨hout, hexec⟩ := exec_completes_or_raises_range hwf s
  · exact ⟨t, hexec, iff_of_false (by simp [herr]) hin⟩
  · exact ⟨_, hexec, iff_of_true rfl (hout hmax)⟩

/-! ### How a due command word ends (R160, R162) -/

/-- A due word ends in one of three ways: it is illegal and only raises ILLEGAL, or it is legal and then ends without
error or only raises RANGE. -/
theorem step_due_cases {s : State} {w : Word} (hp : s.pending = some w) (hd : s.delay = 0) :
    (IllegalWord w ∧ step s = .next (s.raiseError .illegal))
    ∨ (¬ IllegalWord w ∧ ∃ t, step s = .next t ∧ t.err = .none ∧ t.busy = false)
    ∨ (¬ IllegalWord w ∧ step s = .next ((s.noteRead s.ghost.arg0).raiseError .range)) := by
  obtain ⟨hillegal, hlegal⟩ := illegalWordOnlyRaisesIllegal s w hp hd
  by_cases hw : IllegalWord w
  · exact .inl ⟨hw, hillegal hw⟩
  · obtain ⟨i, hwf, -, hstep⟩ := hlegal hw
    rw [hstep]
    exact .inr ((exec_completes_or_raises_range hwf s).imp (fun h => ⟨hw, h.2⟩) (fun h => ⟨hw, h.2⟩))

/-- Settles O4. Of the three ends of a due word only that of an illegal word sets ERR to ILLEGAL. -/
theorem illegalArisesExactlyUnderFiveConditions : Obligations.IllegalArisesExactlyUnderFiveConditions := by
  unfold Obligations.IllegalArisesExactlyUnderFiveConditions
  intro s w hp hd
  obtain ⟨hw, hstep⟩ | ⟨hw, t, hstep, herr, -⟩ | ⟨hw, hstep⟩ := step_due_cases hp hd
  · exact ⟨_, hstep, iff_of_true rfl hw⟩
  · exact ⟨t, hstep, iff_of_false (by simp [herr]) hw⟩
  · exact ⟨_, hstep, iff_of_false (by simp) hw⟩

/-- Settles O39. The two ends with an error are those of `raiseError`, whose frame is ERR and BUSY. -/
theorem errorsChangeNothingButErrAndBusy : Obligations.ErrorsChangeNothingButErrAndBusy := by
  unfold Obligations.ErrorsChangeNothingButErrAndBusy
  intro s w hp hd
  obtain ⟨-, hstep⟩ | ⟨-, t, hstep, herr, hbusy⟩ | ⟨-, hstep⟩ := step_due_cases hp hd
  · exact ⟨_, hstep, rfl, fun _ => sameOutside_raiseError s .illegal⟩
  · exact ⟨t, hstep, hbusy, fun h => absurd herr h⟩
  · exact ⟨_, hstep, rfl, fun _ => (sameOutside_raiseError ..).of_noteRead⟩

end Sys2Proof.Machine

namespace Sys2Proof.Machine

/-! ## 30_encoding.md: decoding and encoding (R60 to R65) -/

theorem decode_encode {i : Instr} (h : i.wf = true) : decode (encode i) = .ok i := by
  cases i with
  | lcgNext cell =>
    cases cell with
    | reserved => exact absurd h (by decide)
    | arg0 | lcgCell0 | lcgCell1 => rfl
  | _ => rfl

/-- Settles O1. An accepted word is the encoding of a well-formed command, and the encoding of each is accepted. -/
theorem decodeExactlyInvertsEncode : Obligations.DecodeExactlyInvertsEncode := by
  unfold Obligations.DecodeExactlyInvertsEncode
  refine fun w i => ⟨fun h => ⟨wf_of_decode h, encode_of_decode h⟩, ?_⟩
  rintro ⟨hwf, rfl⟩
  exact decode_encode hwf

/-- Settles O2, by O1: each word is the encoding of its command. -/
theorem tableWordsDecode : Obligations.TableWordsDecode := by
  unfold Obligations.TableWordsDecode
  refine ⟨?_, ?_, ?_, ?_, ?_, ?_, ?_, ?_, ?_, ?_, ?_, ?_, ?_⟩
  all_goals exact (decodeExactlyInvertsEncode _ _).mpr ⟨rfl, rfl⟩

/-- Settles O5. The step of a due word runs what the decoder answers. -/
theorem stepRunsTheDecodedCommand : Obligations.StepRunsTheDecodedCommand := by
  unfold Obligations.StepRunsTheDecodedCommand
  exact fun s w i hp hd h => step_of_decode_ok hp hd h

end Sys2Proof.Machine

namespace Sys2Proof.Machine

/-! ## 10_state.md section 2, 20_memory.md section 3: the register port -/

/-! ### The slot map (R22) -/

/-- The number of a register's slot; 8, the first of the reserved slots, for all of them (R22, R30). -/
@[simp] def PortReg.number : PortReg → Nat
  | .cmd => 0
  | .status => 1
  | .arg0 => 2
  | .arg1 => 3
  | .result => 4
  | .lcgCell0 => 5
  | .lcgCell1 => 6
  | .holdrand => 7
  | .reserved => 8

theorem number_portReg (slot : BitVec 4) : (portReg slot).number = min slot.toNat 8 := by
  revert slot
  decide

theorem portReg_eq_of_number {slot : BitVec 4} {r : PortReg} (h : min slot.toNat 8 = r.number) : portReg slot = r := by
  revert slot
  cases r <;> decide

theorem portReg_eq_cmd_iff (slot : BitVec 4) : portReg slot = .cmd ↔ slot = 0#4 := by
  revert slot
  decide

theorem portReg_eq_status_iff (slot : BitVec 4) : portReg slot = .status ↔ slot.toNat = 1 := by
  revert slot
  decide

theorem portReg_eq_holdrand_iff (slot : BitVec 4) : portReg slot = .holdrand ↔ slot = 7#4 := by
  revert slot
  decide

/-! ### Port accesses, by the register that they reach (R186) -/

theorem portWrite_of_idle {s : State} (h : s.busy = false) (slot : BitVec 4) (v : Word) :
    portWrite slot v s = .next (s.writeReg (portReg slot) v) := by
  simp [portWrite, h]

theorem portWrite_of_busy {s : State} (h : s.busy = true) (slot : BitVec 4) (v : Word) :
    portWrite slot v s = .fault .busyAccess := by
  simp [portWrite, h]

/-- The state after an allowed read of the register `r`. -/
def State.afterRead (r : PortReg) (s : State) : State := (s.noteRead (s.regDefined r)).observe (s.regValue r)

theorem portRead_of_allowed {s : State} {slot : BitVec 4} (h : s.busy = false ∨ slot.toNat = 1) :
    portRead slot s = .next (s.afterRead (portReg slot)) := by
  rw [← portReg_eq_status_iff] at h
  rw [portRead, if_neg]
  · rfl
  · rcases h with h | h <;> simp [h]

theorem portRead_of_refused {s : State} {slot : BitVec 4} (hbusy : s.busy = true) (hslot : slot.toNat ≠ 1) :
    portRead slot s = .fault .busyAccess := by
  rw [ne_eq, ← portReg_eq_status_iff] at hslot
  simp [portRead, hbusy, hslot]

/-- Settles O43. Only a read of STATUS is allowed while busy. -/
theorem busyAccessStops : Obligations.BusyAccessStops := by
  unfold Obligations.BusyAccessStops
  exact fun s slot v hbusy => ⟨portWrite_of_busy hbusy slot v, portRead_of_refused hbusy,
    fun h => ⟨_, portRead_of_allowed (.inr h)⟩⟩

/-! ### What a port write does (R22, R23, R30) -/

@[simp] theorem State.writeReg_key (s : State) (r : PortReg) (v : Word) : (s.writeReg r v).key = s.key := by
  cases r <;> rfl

@[simp] theorem State.writeReg_keyMax (s : State) (r : PortReg) (v : Word) : (s.writeReg r v).keyMax = s.keyMax := by
  cases r <;> rfl

@[simp] theorem State.writeReg_seeded (s : State) (r : PortReg) (v : Word) : (s.writeReg r v).seeded = s.seeded := by
  cases r <;> rfl

/-- A write to any slot but CMD leaves the latch and the host's side. -/
theorem writeReg_of_ne_cmd {r : PortReg} (h : r ≠ .cmd) (s : State) (v : Word) :
    (s.writeReg r v).pending = s.pending ∧ (s.writeReg r v).host = s.host := by
  cases r with
  | cmd => exact absurd rfl h
  | _ => exact ⟨rfl, rfl⟩

theorem writeReg_holdrand_of_ne {r : PortReg} (h : r ≠ .holdrand) (s : State) (v : Word) :
    (s.writeReg r v).holdrand = s.holdrand := by
  cases r with
  | holdrand => exact absurd rfl h
  | _ => rfl

/-- The place that a write to a register changes, if it changes one. -/
def PortReg.place : PortReg → Option Place
  | .cmd => some .busy
  | .arg0 => some .arg0
  | .arg1 => some .arg1
  | .lcgCell0 => some .lcgCell0
  | .lcgCell1 => some .lcgCell1
  | .holdrand => some .holdrand
  | .status | .result | .reserved => none

theorem peek_writeReg_of_ne {r : PortReg} {p : Place} (h : r.place ≠ some p) (s : State) (v : Word) :
    (s.writeReg r v).peek p = s.peek p := by
  cases r with
  | status | result | reserved => rfl
  | arg0 => exact peek_setCell_of_ne (c := .arg0) h.symm s v
  | lcgCell0 => exact peek_setCell_of_ne (c := .lcgCell0) h.symm s v
  | lcgCell1 => exact peek_setCell_of_ne (c := .lcgCell1) h.symm s v
  | holdrand => exact (sameOutside_setHoldrand s v).1 p fun hp => h (congrArg some hp.symm)
  | cmd =>
    cases p with
    | busy => exact absurd rfl h
    | _ => rfl
  | arg1 =>
    cases p with
    | arg1 => exact absurd rfl h
    | _ => rfl

/-- The slots whose writes change a place, each with that place (R22). -/
theorem slot_of_place {slot : BitVec 4} {p : Place} (h : (portReg slot).place = some p) :
    (slot.toNat = 0 ∧ p = .busy) ∨ (slot.toNat = 2 ∧ p = .arg0) ∨ (slot.toNat = 3 ∧ p = .arg1)
      ∨ (slot.toNat = 5 ∧ p = .lcgCell0) ∨ (slot.toNat = 6 ∧ p = .lcgCell1) ∨ (slot.toNat = 7 ∧ p = .holdrand) := by
  have hnumber := number_portReg slot
  generalize portReg slot = r at h hnumber
  cases r with
  | status | result | reserved => cases h
  | cmd | arg0 | arg1 | lcgCell0 | lcgCell1 | holdrand =>
    obtain rfl := Option.some_inj.mp h
    simp at hnumber ⊢
    omega

/-- Settles O41. The slot map sends each slot number to the register that takes the value, and the frame of a write
is the one place of that register. -/
theorem portWriteSlotBySlot : Obligations.PortWriteSlotBySlot := by
  unfold Obligations.PortWriteSlotBySlot
  intro s slot v hidle
  have hpending : s.pending = none := by simpa [State.busy] using hidle
  have hreg : ∀ r : PortReg, min slot.toNat 8 = r.number → portReg slot = r := fun _ => portReg_eq_of_number
  refine ⟨_, portWrite_of_idle hidle slot v, fun h => ?_, fun h => ?_, fun h => ?_, fun h => ?_, fun h => ?_,
    fun h => ?_, fun h => ?_, fun h => ?_, State.writeReg_keyMax .., fun p hp => ?_⟩
  case refine_1 => rw [hreg .cmd (by simp [h])]; exact ⟨rfl, rfl⟩
  case refine_2 =>
    have hne : portReg slot ≠ .cmd := fun hr => h (congrArg BitVec.toNat ((portReg_eq_cmd_iff slot).mp hr))
    obtain ⟨hpending', hhost⟩ := writeReg_of_ne_cmd hne s v
    exact ⟨hpending'.trans hpending, hhost⟩
  case refine_3 => rw [hreg .arg0 (by simp [h])]; rfl
  case refine_4 => rw [hreg .arg1 (by simp [h])]; rfl
  case refine_5 => rw [hreg .lcgCell0 (by simp [h])]; rfl
  case refine_6 => rw [hreg .lcgCell1 (by simp [h])]; rfl
  case refine_7 => rw [hreg .holdrand (by simp [h])]; rfl
  case refine_8 =>
    obtain h | h | h := h
    · rw [hreg .status (by simp [h])]; rfl
    · rw [hreg .result (by simp [h])]; rfl
    · rw [hreg .reserved (by simp [h])]; rfl
  case refine_9 => exact peek_writeReg_of_ne (fun hplace => hp (slot_of_place hplace)) s v

/-! ### What a port read returns (R22, R23, R30; 20_memory.md R48) -/

theorem peek_afterRead (r : PortReg) (p : Place) (s : State) : (s.afterRead r).peek p = s.peek p := by
  cases p <;> rfl

theorem regValue_afterRead (r r' : PortReg) (s : State) : (s.afterRead r).regValue r' = s.regValue r' := by
  cases r' <;> rfl

/-- Settles O42. The slot map sends each slot number to the register whose value is returned, and reading changes only
the host's side and the mark of an unspecified read. -/
theorem portReadSlotBySlot : Obligations.PortReadSlotBySlot := by
  unfold Obligations.PortReadSlotBySlot
  intro s slot hallowed
  have hreg : ∀ r : PortReg, min slot.toNat 8 = r.number → portReg slot = r := fun _ => portReg_eq_of_number
  refine ⟨s.afterRead (portReg slot), s.regValue (portReg slot), portRead_of_allowed hallowed, rfl, fun h => ?_,
    fun h => ?_, fun h => ?_, fun h => ?_, fun h => ?_, fun h => ?_, fun h => ?_, fun h => ?_,
    fun p => peek_afterRead .., rfl, rfl, rfl, _, portRead_of_allowed hallowed, ?_⟩
  case refine_1 =>
    obtain h | h := h
    · rw [hreg .cmd (by simp [h])]; rfl
    · rw [hreg .reserved (by simp [h])]; rfl
  case refine_2 => rw [hreg .status (by simp [h])]; rfl
  case refine_3 => rw [hreg .arg0 (by simp [h])]; rfl
  case refine_4 => rw [hreg .arg1 (by simp [h])]; rfl
  case refine_5 => rw [hreg .result (by simp [h])]; rfl
  case refine_6 => rw [hreg .lcgCell0 (by simp [h])]; rfl
  case refine_7 => rw [hreg .lcgCell1 (by simp [h])]; rfl
  case refine_8 => rw [hreg .holdrand (by simp [h])]; rfl
  case refine_9 => exact congrArg (· :: _) (regValue_afterRead ..)

/-! ### STATUS (R24) -/

/-- Settles O40, by the values of the three fields. -/
theorem statusLayout : Obligations.StatusLayout := by
  unfold Obligations.StatusLayout
  intro s
  unfold State.statusWord
  generalize s.busy = busy, s.seeded = seeded, s.err = err
  cases err <;> revert busy seeded <;> decide

end Sys2Proof.Machine

namespace Sys2Proof.Machine

/-! ## 20_memory.md section 3, 70_reset_and_hazards.md: the host's turn -/

/-! ### A turn, by the host's next operation -/

theorem hostTurn_of_nil {s : State} (h : s.host.ops = []) : hostTurn s = .next s := by
  simp [hostTurn, h]

theorem hostTurn_of_cons {s : State} {op : HostOp} {rest : List HostOp} (h : s.host.ops = op :: rest) :
    hostTurn s = hostAct op s.dropOp := by
  simp [hostTurn, h]

theorem dropOp_of_cons {s : State} {op : HostOp} {rest : List HostOp} (h : s.host.ops = op :: rest) :
    s.dropOp = { s with host := { s.host with ops := rest } } := by
  simp [State.dropOp, h]

theorem pollOnce_observed (s : State) : (pollOnce s).host.observed = s.statusWord :: s.host.observed := by
  unfold pollOnce
  split <;> rfl

theorem pollOnce_ops (s : State) : (pollOnce s).host.ops = if s.busy then .poll :: s.host.ops else s.host.ops := by
  unfold pollOnce
  split <;> rfl

@[simp] theorem pollOnce_busy (s : State) : (pollOnce s).busy = s.busy := by
  unfold pollOnce
  split <;> rfl

@[simp] theorem pollOnce_delay (s : State) : (pollOnce s).delay = s.delay := by
  unfold pollOnce
  split <;> rfl

/-- Settles O57. While no command is due, a step is the host's turn, and the turn is its next operation. -/
theorem hostTurnMakesTheNextOperation : Obligations.HostTurnMakesTheNextOperation := by
  unfold Obligations.HostTurnMakesTheNextOperation
  intro s hready
  rw [step_of_not_ready hready]
  refine ⟨fun hops => hostTurn_of_nil hops, fun op rest hops => ?_⟩
  have hops' : s.passTurn.host.ops = op :: rest := hops
  rw [hostTurn_of_cons hops', dropOp_of_cons hops']
  refine ⟨?_, ?_, ?_⟩
  · rintro slot v rfl
    rfl
  · rintro slot rfl
    rfl
  · rintro rfl
    exact ⟨_, rfl, pollOnce_observed _, pollOnce_ops _⟩

/-- Settles O55. A reset at the host's turn leaves the reset block, with the host's side as it is. -/
theorem resetDropsThePendingCommand : Obligations.ResetDropsThePendingCommand := by
  unfold Obligations.ResetDropsThePendingCommand
  refine ⟨fun s rest hready hops => ?_, rfl, rfl, rfl⟩
  have hops' : s.passTurn.host.ops = .reset :: rest := hops
  rw [step_of_not_ready hready, hostTurn_of_cons hops', dropOp_of_cons hops']
  exact ⟨_, rfl, rfl, rfl, rfl, rfl, State.resetBlock_keyMax _, rfl⟩

/-! ### What a step can do to the block (20_memory.md R50) -/

/-- The state with another host's side and another mark of an unspecified read, the block itself unchanged. -/
def State.withHostAndMark (host : HostSide) (mark : Bool) (s : State) : State :=
  { s with host := host, ghost := { s.ghost with unspecifiedRead := mark } }

@[simp] theorem State.withHostAndMark_seeded (host : HostSide) (mark : Bool) (s : State) :
    (s.withHostAndMark host mark).seeded = s.seeded := rfl

theorem peek_passTurn_withHostAndMark (host : HostSide) (mark : Bool) (p : Place) (s : State) :
    (s.passTurn.withHostAndMark host mark).peek p = s.peek p := by
  cases p <;> rfl

/-- Of the host's operations only a write and a reset act on the block. -/
theorem hostTurn_block_cases {s t : State} (h : hostTurn s = .next t) :
    (∃ slot v rest, s.host.ops = .write slot v :: rest ∧ t = s.dropOp.writeReg (portReg slot) v)
    ∨ (∃ rest, s.host.ops = .reset :: rest ∧ t = s.dropOp.resetBlock)
    ∨ ∃ host mark, t = s.withHostAndMark host mark := by
  obtain ⟨-, rfl⟩ | ⟨slot, v, rest, hops, -, ht⟩ | ⟨_, _, -, -, rfl⟩ | ⟨_, -, rfl⟩ | ⟨rest, hops, ht⟩ :=
    hostTurn_cases h
  case inl => exact .inr (.inr ⟨_, _, rfl⟩)
  case inr.inl => exact .inl ⟨slot, v, rest, hops, ht⟩
  case inr.inr.inl => exact .inr (.inr ⟨_, _, rfl⟩)
  case inr.inr.inr.inl =>
    unfold pollOnce
    split <;> exact .inr (.inr ⟨_, _, rfl⟩)
  case inr.inr.inr.inr => exact .inr (.inl ⟨rest, hops, ht⟩)

/-- The five ways in which a step can answer a next state, by what it does to the block. -/
theorem step_block_cases {s t : State} (h : step s = .next t) :
    (∃ i, s.readyCommand = some (encode i) ∧ exec i s = .next t)
    ∨ (∃ w, s.readyCommand = some w ∧ t = s.raiseError .illegal)
    ∨ (∃ slot v rest, s.host.ops = .write slot v :: rest ∧ t = s.passTurn.dropOp.writeReg (portReg slot) v)
    ∨ (∃ rest, s.host.ops = .reset :: rest ∧ t = s.passTurn.dropOp.resetBlock)
    ∨ ∃ host mark, t = s.passTurn.withHostAndMark host mark := by
  obtain ⟨w, i, hp, hd, hdec, hexec⟩ | ⟨w, _, hp, hd, -, ht⟩ | ⟨-, hturn⟩ := step_cases h
  · refine .inl ⟨i, readyCommand_eq_some.mpr ⟨hd, ?_⟩, hexec⟩
    rw [encode_of_decode hdec, hp]
  · exact .inr (.inl ⟨w, readyCommand_eq_some.mpr ⟨hd, hp⟩, ht⟩)
  · exact .inr (.inr (hostTurn_block_cases hturn))

/-- The host makes no operation in a step that runs a command. -/
theorem host_of_step_of_ready {s t : State} {w : Word} (hready : s.readyCommand = some w) (h : step s = .next t) :
    t.host = s.host := by
  obtain ⟨_, i, -, -, -, hexec⟩ | ⟨_, _, -, -, -, rfl⟩ | ⟨hnone, -⟩ := step_cases h
  · obtain ⟨-, hhost, -⟩ := exec_keeps hexec
    exact hhost
  · rfl
  · cases hnone.symm.trans hready

/-- Settles O58. The last of the five ways changes no place, and the other four are those of the statement. -/
theorem blockChangesOnlyAtWritesAndCompletions : Obligations.BlockChangesOnlyAtWritesAndCompletions := by
  unfold Obligations.BlockChangesOnlyAtWritesAndCompletions
  intro s t h
  obtain ⟨i, hready, -⟩ | ⟨w, hready, -⟩ | ⟨slot, v, rest, hops, -⟩ | ⟨rest, hops, -⟩ | ⟨host, mark, rfl⟩ :=
    step_block_cases h
  · exact .inl ⟨_, hready⟩
  · exact .inl ⟨w, hready⟩
  · exact .inr (.inl ⟨slot, v, rest, hops⟩)
  · exact .inr (.inr (.inl ⟨rest, hops⟩))
  · exact .inr (.inr (.inr ⟨fun p => peek_passTurn_withHostAndMark .., rfl, rfl⟩))

/-- Settles O50. Commands only set SEEDED, and of the host's operations only a reset changes it. -/
theorem seededIsClearedOnlyByReset : Obligations.SeededIsClearedOnlyByReset := by
  unfold Obligations.SeededIsClearedOnlyByReset
  intro s t h
  obtain ⟨i, hready, hexec⟩ | ⟨_, -, rfl⟩ | ⟨_, _, _, -, rfl⟩ | ⟨rest, hops, rfl⟩ | ⟨_, _, rfl⟩ :=
    step_block_cases h
  case inl =>
    obtain ⟨-, -, -, -, -, -, -, -, hkept, hset⟩ := exec_keeps hexec
    refine ⟨fun hs ht => absurd (hkept hs) (by simp [ht]), fun hs ht => ⟨i, hready, ?_⟩⟩
    exact (hset hs ht).symm
  case inr.inr.inr.inl => exact ⟨fun _ _ => ⟨rest, hops⟩, fun _ ht => nomatch ht⟩
  all_goals refine ⟨fun hs ht => ?_, fun hs ht => ?_⟩ <;> simp [hs] at ht

/-- Settles O51. Of the commands KEY_WRITE alone, and of the host's operations a reset alone, changes KEY. -/
theorem keyIsWrittenOnlyByKeyWrite : Obligations.KeyIsWrittenOnlyByKeyWrite := by
  unfold Obligations.KeyIsWrittenOnlyByKeyWrite
  intro s t h
  obtain ⟨i, hready, hexec⟩ | ⟨_, -, rfl⟩ | ⟨_, _, _, -, rfl⟩ | ⟨rest, hops, rfl⟩ | ⟨_, _, rfl⟩ :=
    step_block_cases h
  case inl =>
    obtain ⟨-, -, -, hmax, -, -, -, hkey, -, -⟩ := exec_keeps hexec
    refine ⟨hmax, fun hne => .inl ?_⟩
    rw [hready, hkey hne]
    rfl
  case inr.inl => exact ⟨rfl, fun hne => absurd rfl hne⟩
  case inr.inr.inl => exact ⟨State.writeReg_keyMax .., fun hne => absurd (State.writeReg_key ..) hne⟩
  case inr.inr.inr.inl => exact ⟨State.resetBlock_keyMax _, fun _ => .inr ⟨rest, hops⟩⟩
  case inr.inr.inr.inr => exact ⟨rfl, fun hne => absurd rfl hne⟩

/-! ### The invariant (10_state.md R21, 00_scope.md R8) -/

theorem resetWith_inv {m : Nat} (h : 1 ≤ m) : (State.resetWith m).Inv := by
  refine ⟨Nat.le_refl 624, ?_, ?_, fun _ => rfl⟩ <;> simp [State.resetWith, State.keyMax, Ghost.fresh, h]

/-- Settles O48. The model's reset is the one with the spec's default KEY_MAX. -/
theorem resetSatisfiesTheInvariant : Obligations.ResetSatisfiesTheInvariant := by
  unfold Obligations.ResetSatisfiesTheInvariant
  exact ⟨resetWith_inv (by decide), fun m h => resetWith_inv h⟩

theorem State.Inv.passTurn {s : State} (h : s.Inv) : s.passTurn.Inv := by
  obtain ⟨hcursor, hmax, hghost, hdelay⟩ := h
  exact ⟨hcursor, hmax, hghost, fun hp => by simp [hdelay hp]⟩

theorem State.Inv.writeReg {s : State} (h : s.Inv) (r : PortReg) (v : Word) : (s.writeReg r v).Inv := by
  obtain ⟨hcursor, hmax, hghost, -⟩ := id h
  cases r with
  | cmd => exact ⟨hcursor, hmax, hghost, nofun⟩
  | _ => exact h

/-- A reset keeps KEY_MAX. -/
theorem State.Inv.resetBlock {s : State} (h : s.Inv) : s.resetBlock.Inv := by
  obtain ⟨-, hmax, -, -⟩ := h
  exact resetWith_inv hmax

/-- Settles O49, by the five ways in which a step can go. -/
theorem everyStepKeepsTheInvariant : Obligations.EveryStepKeepsTheInvariant := by
  unfold Obligations.EveryStepKeepsTheInvariant
  intro s t hinv h
  obtain ⟨i, hready, hexec⟩ | ⟨_, hready, rfl⟩ | ⟨_, _, _, -, rfl⟩ | ⟨_, -, rfl⟩ | ⟨_, _, rfl⟩ :=
    step_block_cases h
  case inl =>
    obtain ⟨hcursor, hmax, hghost, -⟩ := hinv
    obtain ⟨hd, -⟩ := readyCommand_eq_some.mp hready
    obtain ⟨hdelay, -, -, hmax', hghost', hcursor', -⟩ := exec_keeps hexec
    exact ⟨hcursor' hcursor, hmax' ▸ hmax, hghost' hghost, fun _ => hdelay.trans hd⟩
  case inr.inl =>
    obtain ⟨hcursor, hmax, hghost, -⟩ := hinv
    obtain ⟨hd, -⟩ := readyCommand_eq_some.mp hready
    exact ⟨hcursor, hmax, hghost, fun _ => hd⟩
  case inr.inr.inl => exact State.Inv.writeReg (s := s.passTurn.dropOp) hinv.passTurn ..
  case inr.inr.inr.inl => exact State.Inv.resetBlock (s := s.passTurn.dropOp) hinv.passTurn
  case inr.inr.inr.inr => exact hinv.passTurn

end Sys2Proof.Machine

namespace Sys2Proof.Machine

/-! ## 70_reset_and_hazards.md: polling and the busy hazard (R186, R192) -/

/-! ### A command completes while the host only reads STATUS -/

/-- The host has nothing left but reads of STATUS. -/
def ReadsOnlyStatus (ops : List HostOp) : Prop := ∀ op ∈ ops, op = .poll ∨ op = .read 1#4

theorem hostTurn_of_readsOnlyStatus {s : State} (hbusy : s.busy = true) (hops : ReadsOnlyStatus s.host.ops) :
    ∃ t, hostTurn s = .next t ∧ t.busy = true ∧ t.delay = s.delay ∧ ReadsOnlyStatus t.host.ops := by
  cases hlist : s.host.ops with
  | nil => exact ⟨s, hostTurn_of_nil hlist, hbusy, rfl, hops⟩
  | cons op rest =>
    have hdrop : s.dropOp.host.ops = rest := by simp [hlist]
    rw [hlist] at hops
    rw [hostTurn_of_cons hlist]
    obtain rfl | rfl := hops op List.mem_cons_self
    · refine ⟨_, rfl, (pollOnce_busy _).trans hbusy, pollOnce_delay _, ?_⟩
      rw [pollOnce_ops, hdrop, if_pos (by exact hbusy)]
      exact hops
    · refine ⟨_, portRead_of_allowed (.inr rfl), hbusy, rfl, ?_⟩
      exact fun op' hmem => hops op' (List.mem_cons_of_mem _ (hdrop ▸ hmem))

/-- By induction on the turns that are left before the command. -/
theorem run_delay_completes {s : State} {d : Nat} (hdelay : s.delay = d) (hbusy : s.busy = true)
    (hops : ReadsOnlyStatus s.host.ops) : ∃ t, Host.Core.run Sys2Proof.core (d + 1) s = .next t ∧ t.busy = false := by
  induction d generalizing s with
  | zero =>
    obtain ⟨w, hp⟩ := Option.isSome_iff_exists.mp hbusy
    obtain ⟨t, hstep, hdone, -⟩ := errorsChangeNothingButErrAndBusy s w hp hdelay
    exact ⟨t, core_run_succ 0 hstep, hdone⟩
  | succ d ih =>
    have hready : s.readyCommand = none := by simp [State.readyCommand, hdelay]
    obtain ⟨t, hturn, hbusy', hdelay', hops'⟩ := hostTurn_of_readsOnlyStatus (s := s.passTurn) hbusy hops
    rw [core_run_succ _ ((step_of_not_ready hready).trans hturn)]
    exact ih (by simp [hdelay', hdelay]) hbusy' hops'

/-- Settles O44. The turns before the command are as many as its latency. -/
theorem pendingCommandCompletes : Obligations.PendingCommandCompletes := by
  unfold Obligations.PendingCommandCompletes
  exact fun s hbusy hops => run_delay_completes rfl hbusy hops

/-! ### The polling discipline -/

/-- A discipline that holds while a command is under way holds after its completion. -/
theorem polled_false_of_polled_true {ops : List HostOp} (h : polled true ops = true) : polled false ops = true := by
  induction ops with
  | nil => rfl
  | cons op ops ih =>
    cases op with
    | write => cases h
    | read slot =>
      obtain ⟨-, h⟩ := Bool.and_eq_true_iff.mp h
      exact ih h
    | poll | reset => exact h

theorem polled_read {busy : Bool} {slot : BitVec 4} {ops : List HostOp} (h : polled busy (.read slot :: ops) = true) :
    (busy = false ∨ slot.toNat = 1) ∧ polled busy ops = true := by
  cases busy with
  | false => exact ⟨.inl rfl, h⟩
  | true =>
    obtain ⟨hslot, hops⟩ := Bool.and_eq_true_iff.mp h
    exact ⟨.inr (congrArg BitVec.toNat (eq_of_beq hslot)), hops⟩

theorem polled_poll (busy : Bool) (ops : List HostOp) : polled busy (.poll :: ops) = polled false ops := by
  cases busy <;> rfl

theorem polled_reset (busy : Bool) (ops : List HostOp) : polled busy (.reset :: ops) = polled false ops := by
  cases busy <;> rfl

/-- A write starts a command just when its slot is CMD's, and takes no operation from the host. -/
theorem writeReg_portReg_busy {s : State} (hidle : s.busy = false) (slot : BitVec 4) (v : Word) :
    (s.writeReg (portReg slot) v).busy = (slot == 0) ∧ (s.writeReg (portReg slot) v).host.ops = s.host.ops := by
  by_cases h : slot = 0
  · subst h
    exact ⟨rfl, rfl⟩
  · obtain ⟨hpending, hhost⟩ := writeReg_of_ne_cmd (mt (portReg_eq_cmd_iff slot).mp h) s v
    rw [State.busy, hpending, hhost, beq_eq_false_iff_ne.mpr h]
    exact ⟨hidle, rfl⟩

/-- One operation of a host that polls is answered, and what is left is still so. -/
theorem hostAct_keeps_polled {s : State} {op : HostOp} (h : polled s.busy (op :: s.host.ops) = true) :
    ∃ t, hostAct op s = .next t ∧ polled t.busy t.host.ops = true := by
  cases op with
  | write slot v =>
    cases hbusy : s.busy with
    | true =>
      rw [hbusy] at h
      cases h
    | false =>
      obtain ⟨hbusy', hops⟩ := writeReg_portReg_busy hbusy slot v
      rw [hbusy] at h
      refine ⟨_, portWrite_of_idle hbusy slot v, ?_⟩
      rw [hbusy', hops]
      exact h
  | read slot =>
    obtain ⟨hallowed, hops⟩ := polled_read h
    exact ⟨_, portRead_of_allowed hallowed, hops⟩
  | poll =>
    rw [polled_poll] at h
    refine ⟨_, rfl, ?_⟩
    rw [pollOnce_busy, pollOnce_ops]
    cases s.busy <;> exact h
  | reset =>
    rw [polled_reset] at h
    exact ⟨_, rfl, h⟩

/-- Settles O45. A due command completes, and the discipline allows the operation that the host makes at its turn. -/
theorem polledHostNeverMeetsTheBusyHazard : Obligations.PolledHostNeverMeetsTheBusyHazard := by
  unfold Obligations.PolledHostNeverMeetsTheBusyHazard
  intro s h
  cases hready : s.readyCommand with
  | some w =>
    obtain ⟨hd, hp⟩ := readyCommand_eq_some.mp hready
    obtain ⟨t, hstep, hdone, -⟩ := errorsChangeNothingButErrAndBusy s w hp hd
    have hbusy : s.busy = true := by simp [State.busy, hp]
    rw [hbusy] at h
    refine ⟨t, hstep, ?_⟩
    rw [hdone, host_of_step_of_ready hready hstep]
    exact polled_false_of_polled_true h
  | none =>
    rw [step_of_not_ready hready]
    cases hops : s.host.ops with
    | nil => exact ⟨_, hostTurn_of_nil hops, h⟩
    | cons op rest =>
      rw [hostTurn_of_cons (s := s.passTurn) hops]
      apply hostAct_keeps_polled
      simpa [hops] using h

/-! ### Pseudo-instructions (30_encoding.md R71) -/

/-- Operations after which an idle host that polls is idle again, whatever follows them. -/
def PollsToEnd (ops : List HostOp) : Prop := ∀ more, polled false (ops ++ more) = polled false more

theorem PollsToEnd.append {xs ys : List HostOp} (hx : PollsToEnd xs) (hy : PollsToEnd ys) : PollsToEnd (xs ++ ys) := by
  intro more
  rw [List.append_assoc, hx, hy]

theorem pollsToEnd_nil : PollsToEnd [] := fun _ => rfl
theorem pollsToEnd_runAndPoll (word : Word) : PollsToEnd (runAndPoll word) := fun _ => rfl
theorem pollsToEnd_writeArgs (v w : Word) : PollsToEnd [.write 2 v, .write 3 w] := fun _ => rfl

theorem pollsToEnd_keyLoadOps (j : Nat) (ks : List Word) : PollsToEnd (keyLoadOps j ks) := by
  induction ks generalizing j with
  | nil => exact pollsToEnd_nil
  | cons k ks ih => exact ((pollsToEnd_writeArgs _ _).append (pollsToEnd_runAndPoll _)).append (ih (j + 1))

/-- Every expansion but that of `key.load` is a fixed list, in which a poll follows the CMD write, if there is one. -/
theorem pollsToEnd_expand (p : Pseudo) : PollsToEnd p.expand := by
  cases p with
  | keyLoad ks => exact pollsToEnd_keyLoadOps 0 ks
  | _ => exact fun _ => rfl

/-- Settles O46. Each expansion polls to its end, so the next one starts idle. -/
theorem pseudoProgramsArePolled : Obligations.PseudoProgramsArePolled := by
  unfold Obligations.PseudoProgramsArePolled
  intro ps
  induction ps with
  | nil => rfl
  | cons p ps ih => rw [List.flatMap_cons, pollsToEnd_expand, ih]

/-! ### The assembler (30_encoding.md R72) -/

theorem assembleFrom_cons_of_none {n : Nat} {l : List Char} {ls : List (List Char)} (h : assembleLine l = none) :
    assembleFrom n (l :: ls) = .error n := by
  simp [assembleFrom, h]

theorem assembleFrom_cons_eq_error_iff {n m : Nat} {l : List Char} {ls : List (List Char)}
    (h : assembleLine l ≠ none) : assembleFrom n (l :: ls) = .error m ↔ assembleFrom (n + 1) ls = .error m := by
  obtain ⟨ops, h⟩ := Option.ne_none_iff_exists'.mp h
  rw [assembleFrom, h]
  cases assembleFrom (n + 1) ls <;> simp

theorem assembleFrom_eq_error_iff (lines : List (List Char)) (n m : Nat) :
    assembleFrom n lines = .error m ↔
      ∃ before line after, lines = before ++ line :: after ∧ m = before.length + n ∧ assembleLine line = none
        ∧ ∀ l ∈ before, assembleLine l ≠ none := by
  induction lines generalizing n with
  | nil => simp [assembleFrom]
  | cons l ls ih =>
    by_cases h : assembleLine l = none
    · rw [assembleFrom_cons_of_none h]
      constructor
      · intro he
        obtain rfl : n = m := by simpa using he
        exact ⟨[], l, ls, rfl, (Nat.zero_add n).symm, h, nofun⟩
      · rintro ⟨_ | ⟨b, before⟩, line, after, hlines, rfl, -, hbefore⟩
        · simp
        · cases hlines
          exact absurd h (hbefore _ List.mem_cons_self)
    · rw [assembleFrom_cons_eq_error_iff h, ih]
      constructor
      · rintro ⟨before, line, after, rfl, rfl, hline, hbefore⟩
        refine ⟨l :: before, line, after, rfl, ?_, hline, ?_⟩
        · rw [List.length_cons]; omega
        · exact List.forall_mem_cons.mpr ⟨h, hbefore⟩
      · rintro ⟨_ | ⟨b, before⟩, line, after, hlines, rfl, hline, hbefore⟩
        · cases hlines
          exact absurd hline h
        · cases hlines
          refine ⟨before, line, after, rfl, ?_, hline, fun l hl => hbefore l (List.mem_cons_of_mem _ hl)⟩
          rw [List.length_cons]; omega

/-- Settles O47, by induction on the lines with the number of the first one arbitrary. -/
theorem assemblerRefusesByLineNumber : Obligations.AssemblerRefusesByLineNumber := by
  unfold Obligations.AssemblerRefusesByLineNumber
  exact fun lines n => assembleFrom_eq_error_iff lines 1 n

end Sys2Proof.Machine

namespace Sys2Proof.Machine

/-! ## 42_mt_generation.md section 3: the twist and bits 30:0 of `words[0]` (R116) -/

/-! ### The element equations of a twist, in the model's operations -/

/-- The element 397 places on, as it is when element `i` is written: a new one from 227 on (R118). -/
def twistFar (w w' : Words) (i : Nat) : Word := if i < 227 then wordAt w (i + 397) else wordAt w' (i - 227)

/-- The next element, as it is when element `i` is written: the new first one after the last (R112). -/
def twistAfter (w w' : Words) (i : Nat) : Word := if i < 623 then wordAt w (i + 1) else wordAt w' 0

theorem IsTwist.wordAt_eq {w w' : Words} (h : IsTwist w w') {i : Nat} (hi : i < 624) :
    wordAt w' i = twistFar w w' i ^^^ twistShift (twistJoin (wordAt w i) (twistAfter w w' i)) := by
  rw [h i hi, twistShift, ← BitVec.xor_assoc]
  rfl

/-! ### What enters a twist (R116, last part) -/

theorem twistJoin_congr {a a' : Word} (h : a &&& 0x80000000#32 = a' &&& 0x80000000#32) (b : Word) :
    twistJoin a b = twistJoin a' b := by
  rw [twistJoin, twistJoin, h]

/-- In ascending order, since the pass also reads elements that it has already written. -/
theorem IsTwist.eq_of_agree {w₁ w₂ w₁' w₂' : Words} (h₁ : IsTwist w₁ w₁') (h₂ : IsTwist w₂ w₂')
    (hzero : wordAt w₁ 0 &&& 0x80000000#32 = wordAt w₂ 0 &&& 0x80000000#32)
    (hrest : ∀ k, 1 ≤ k → k < 624 → wordAt w₁ k = wordAt w₂ k) : w₁' = w₂' := by
  apply words_ext
  intro i
  induction i using Nat.strong_induction_on with
  | _ i ih =>
    intro hi
    have hfar : twistFar w₁ w₁' i = twistFar w₂ w₂' i := by
      unfold twistFar
      split
      · exact hrest _ (by omega) (by omega)
      · exact ih _ (by omega) (by omega)
    have hafter : twistAfter w₁ w₁' i = twistAfter w₂ w₂' i := by
      unfold twistAfter
      split
      · exact hrest _ (by omega) (by omega)
      · exact ih _ (by omega) (by omega)
    have hhigh : wordAt w₁ i &&& 0x80000000#32 = wordAt w₂ i &&& 0x80000000#32 := by
      obtain rfl | hpos := i.eq_zero_or_pos
      · exact hzero
      · rw [hrest i hpos hi]
    rw [h₁.wordAt_eq hi, h₂.wordAt_eq hi, hfar, hafter, twistJoin_congr hhigh]

/-- Settles O22. Of `words[0]` only bit 31 enters the pass, and the other elements are the same. -/
theorem twistIgnoresLowBitsOfWordZero : Obligations.TwistIgnoresLowBitsOfWordZero := by
  unfold Obligations.TwistIgnoresLowBitsOfWordZero
  intro w x hx
  refine (twist_isTwist _).eq_of_agree (twist_isTwist w) ?_ fun k hk hlt => ?_
  · rw [wordAt_setWordAt_same, hx]
  · exact wordAt_setWordAt_ne x (by decide) hlt (by omega)

/-! ### A vector that is not zero outside those bits stays so (93_implementation_defined.md G4) -/

/-- The constant that an odd word brings in has bit 31 set, where the shifted word has 0. -/
theorem even_of_twistShift_eq_zero {y : Word} (h : twistShift y = 0#32) : y.getLsbD 0 = false := by
  by_contra hodd
  have hbit : (twistShift y).getLsbD 31 = true := by
    rw [twistShift, if_pos (by simpa using hodd)]
    simp
  rw [h] at hbit
  cases hbit

theorem twistShift_eq_zero {y : Word} (h : twistShift y = 0#32) : y = 0#32 := by
  have heven := even_of_twistShift_eq_zero h
  have hshift : y >>> 1 = 0#32 := by
    rw [twistShift, heven] at h
    simpa using h
  apply BitVec.eq_of_getLsbD_eq
  intro i hi
  cases i with
  | zero => exact heven
  | succ i => simpa [Nat.add_comm] using congrArg (BitVec.getLsbD · i) hshift

/-- Bit 31 and bits 30:0 are the whole word. -/
theorem word_eq_zero_of_parts {a : Word} (hhigh : a &&& 0x80000000#32 = 0#32) (hlow : a &&& 0x7FFFFFFF#32 = 0#32) :
    a = 0#32 := by
  calc a = a &&& (0x80000000#32 ||| 0x7FFFFFFF#32) := BitVec.and_allOnes.symm
    _ = 0#32 := by rw [BitVec.and_or_distrib_left, hhigh, hlow]; rfl

/-- Where a twist and the element 397 places on are 0, so is what the element was made from. -/
theorem IsTwist.parts_eq_zero {w w' : Words} (h : IsTwist w w') {i : Nat} (hi : i < 624) (hword : wordAt w' i = 0#32)
    (hfar : twistFar w w' i = 0#32) :
    wordAt w i &&& 0x80000000#32 = 0#32 ∧ twistAfter w w' i &&& 0x7FFFFFFF#32 = 0#32 := by
  rw [h.wordAt_eq hi, hfar, BitVec.zero_xor] at hword
  exact BitVec.or_eq_zero_iff.mp (twistShift_eq_zero hword)

theorem not_nonDegenerate_iff (w : Words) :
    ¬ NonDegenerate w ↔ wordAt w 0 &&& 0x80000000#32 = 0#32 ∧ ∀ k, 1 ≤ k → k ≤ 623 → wordAt w k = 0#32 := by
  simp [NonDegenerate]

/-- The last element of the pass is made from the new first one, so that one is 0 altogether. -/
theorem IsTwist.allZero_of_degenerate {w w' : Words} (h : IsTwist w w') (hw' : ¬ NonDegenerate w') : AllZero w' := by
  obtain ⟨hhigh, hrest⟩ := (not_nonDegenerate_iff w').mp hw'
  have hlow : wordAt w' 0 &&& 0x7FFFFFFF#32 = 0#32 :=
    (h.parts_eq_zero (i := 623) (by decide) (hrest 623 (by decide) (by decide)) (hrest 396 (by decide) (by decide))).2
  intro k hk
  obtain rfl | hpos := k.eq_zero_or_pos
  · exact word_eq_zero_of_parts hhigh hlow
  · exact hrest k hpos (by omega)

/-- Two neighbouring steps of the pass account for both parts of an element. -/
theorem IsTwist.word_eq_zero {w w' : Words} (h : IsTwist w w') (hzero : AllZero w') {k : Nat} (hk : k + 1 < 624)
    (hfar : twistFar w w' k = 0#32) (hfar' : twistFar w w' (k + 1) = 0#32) : wordAt w (k + 1) = 0#32 := by
  obtain ⟨-, hlow⟩ := h.parts_eq_zero (by omega) (hzero k (by omega)) hfar
  obtain ⟨hhigh, -⟩ := h.parts_eq_zero hk (hzero (k + 1) hk) hfar'
  rw [twistAfter, if_pos (by omega)] at hlow
  exact word_eq_zero_of_parts hhigh hlow

/-- Only the vectors that are 0 outside bits 30:0 of `words[0]` have the all-zero twist: from 227 on the element 397
places on is a new one, and before that it is one of those whose old value is then known to be 0. -/
theorem IsTwist.degenerate_of_allZero {w w' : Words} (h : IsTwist w w') (hzero : AllZero w') : ¬ NonDegenerate w := by
  have hfarNew : ∀ i, 227 ≤ i → i < 624 → twistFar w w' i = 0#32 := fun i hi hlt => by
    rw [twistFar, if_neg (by omega)]
    exact hzero _ (by omega)
  have hupper : ∀ k, 227 ≤ k → k + 1 < 624 → wordAt w (k + 1) = 0#32 := fun k hk hlt =>
    h.word_eq_zero hzero hlt (hfarNew k hk (by omega)) (hfarNew (k + 1) (by omega) hlt)
  have hfar : ∀ i, i < 624 → twistFar w w' i = 0#32 := fun i hi => by
    by_cases hlt : i < 227
    · rw [twistFar, if_pos hlt]
      exact hupper (i + 396) (by omega) (by omega)
    · exact hfarNew i (by omega) hi
  refine (not_nonDegenerate_iff w).mpr ⟨(h.parts_eq_zero (by decide) (hzero 0 (by decide)) (hfar 0 (by decide))).1, ?_⟩
  intro k hk hle
  obtain ⟨k, rfl⟩ := Nat.exists_eq_add_of_le' hk
  exact h.word_eq_zero hzero (by omega) (hfar k (by omega)) (hfar (k + 1) (by omega))

/-- Settles O21. A degenerate twist is all zero, and then so is the vector outside bits 30:0 of `words[0]`. -/
theorem twistKeepsNonDegenerate : Obligations.TwistKeepsNonDegenerate := by
  unfold Obligations.TwistKeepsNonDegenerate
  intro w hw
  by_contra hw'
  have h := twist_isTwist w
  exact h.degenerate_of_allZero (h.allZero_of_degenerate hw') hw

/-! ## Draws and restores: 10_state.md R34, 42_mt_generation.md R114, 44_state_access.md R148 -/

/-- Settles O24, by induction on the draws, which need no more than the twister. -/
theorem twisterStateDeterminesAllOutputs : Obligations.TwisterStateDeterminesAllOutputs := by
  unfold Obligations.TwisterStateDeterminesAllOutputs
  exact fun f g hf hg hw hc k => ⟨hf.result_eq hg hw hc k, hf.twister_eq hg hw hc k⟩

theorem regenerate_seeded (s : State) : s.regenerate.seeded = s.seeded := by
  unfold State.regenerate
  split <;> rfl

/-- Settles O25. -/
theorem mtNextIgnoresSeeded : Obligations.MtNextIgnoresSeeded := by
  unfold Obligations.MtNextIgnoresSeeded
  exact fun s h => ⟨_, rfl, rfl, (regenerate_seeded s).trans h, exec_mtNext_with_seeded true rfl⟩

/-- One access of a restore: the host writes an index and a value to the ARG registers and runs MT_WORD_WRITE. -/
theorem exec_mtWordWrite_setArgs {s t : State} {k : Nat} {v : Word} (hk : k < 624)
    (h : exec .mtWordWrite ((s.setArg0 (u32 k)).setArg1 v) = .next t) : t.words = setWordAt s.words k v := by
  have harg : ((s.setArg0 (u32 k)).setArg1 v).arg0.toNat = k := by
    rw [State.setArg1_arg0, State.setArg0_arg0, BitVec.toNat_ofNat, Nat.mod_eq_of_lt (by omega)]
  rw [← next_inj ((execMtWordWrite_of_le (by omega)).symm.trans h), harg]
  rfl

/-- After `k` accesses of a restore the first `k` elements are the saved ones. -/
theorem restore_writes_words {ws : Words} {f : Nat → State}
    (hf : ∀ k, k < 624 → exec .mtWordWrite (((f k).setArg0 (u32 k)).setArg1 (wordAt ws k)) = .next (f (k + 1)))
    {k : Nat} (hk : k ≤ 624) : ∀ i, i < k → wordAt (f k).words i = wordAt ws i := by
  induction k with
  | zero => exact nofun
  | succ k ih =>
    intro i hi
    rw [exec_mtWordWrite_setArgs hk (hf k hk)]
    by_cases hik : i = k
    · rw [hik, wordAt_setWordAt_same]
    · rw [wordAt_setWordAt_ne _ hk (by omega) hik, ih (by omega) i (by omega)]

/-- Settles O37. Every element has been written, and the cursor fits. -/
theorem restoreLeavesTheSavedTwister : Obligations.RestoreLeavesTheSavedTwister := by
  unfold Obligations.RestoreLeavesTheSavedTwister
  intro ws c f hc hf
  have harg : ((f 624).setArg0 (c.setWidth 32)).arg0.toNat ≤ 624 := (toNat_setWidth_cursor c).trans_le hc
  refine ⟨_, execMtCursorWrite_of_le harg, words_ext (restore_writes_words hf (Nat.le_refl 624)), ?_, rfl, rfl⟩
  apply BitVec.eq_of_toNat_eq
  exact (toNat_cursorBits harg).trans (toNat_setWidth_cursor c)

end Sys2Proof.Machine

namespace Sys2Proof.Machine

/-! ## 10_state.md sections 2 and 3, 40_lcg.md R86: the registers that a command neither reads nor writes -/

/-! ### The LCG cells and HOLDRAND, beside the other commands -/

/-- The state with other values in the LCG cells and in HOLDRAND. -/
def State.withCells (a b h : Word) (s : State) : State := { s with lcgCell0 := a, lcgCell1 := b, holdrand := h }

section
variable (a b h : Word) (s : State)

@[simp] theorem State.withCells_arg0 : (s.withCells a b h).arg0 = s.arg0 := rfl
@[simp] theorem State.withCells_keyMax : (s.withCells a b h).keyMax = s.keyMax := rfl

theorem regenerate_withCells : (s.withCells a b h).regenerate = s.regenerate.withCells a b h := by
  by_cases hc : 624 ≤ s.cursor.toNat
  · rw [regenerate_of_ge hc, regenerate_of_ge (s := s.withCells a b h) hc]
    rfl
  · rw [regenerate_of_lt (Nat.lt_of_not_le hc), regenerate_of_lt (s := s.withCells a b h) (Nat.lt_of_not_le hc)]

end

/-- Every command but LCG_NEXT and BOOTSTRAP does the same to everything else, whatever the cells and HOLDRAND hold. -/
theorem exec_withCells {i : Instr} {s t : State} (hlcg : ∀ c, i ≠ .lcgNext c) (hboot : i ≠ .bootstrap)
    (hexec : exec i s = .next t) (a b h : Word) : exec i (s.withCells a b h) = .next (t.withCells a b h) := by
  cases i with
  | lcgNext c => exact absurd rfl (hlcg c)
  | bootstrap => exact absurd rfl hboot
  | mtSeedScalar | mtCursorRead =>
    rw [← next_inj hexec]
    rfl
  | mtNext =>
    rw [← next_inj hexec, exec, execMtNext, regenerate_withCells]
    rfl
  | mtSeedArray | mtWordRead | mtWordWrite | mtCursorWrite | keyWrite | keyRead =>
    simp only [exec, execMtSeedArray, execMtWordRead, execMtWordWrite, execMtCursorWrite, execKeyWrite, execKeyRead,
      keyLengthOk_iff, wordIndexOk_iff, cursorOk_iff, keyIndexOk_iff, State.withCells_arg0, State.withCells_keyMax]
      at hexec ⊢
    split_ifs at hexec ⊢ <;>
    · rw [← next_inj hexec]
      rfl

/-- Those commands leave the cells. -/
theorem exec_cells {i : Instr} {s t : State} (hlcg : ∀ c, i ≠ .lcgNext c) (hboot : i ≠ .bootstrap)
    (hexec : exec i s = .next t) : t.lcgCell0 = s.lcgCell0 ∧ t.lcgCell1 = s.lcgCell1 ∧ t.holdrand = s.holdrand := by
  have hsame : exec i s = .next (t.withCells s.lcgCell0 s.lcgCell1 s.holdrand) := exec_withCells hlcg hboot hexec ..
  rw [next_inj (hexec.symm.trans hsame)]
  exact ⟨rfl, rfl, rfl⟩

/-! ### The twister and HOLDRAND, beside LCG_NEXT -/

/-- The state with another twister and another value in HOLDRAND. -/
def State.withTwisterAndHoldrand (w : Words) (cu : BitVec 10) (h : Word) (s : State) : State :=
  { s with words := w, cursor := cu, holdrand := h }

/-- LCG_NEXT does the same to everything else, whatever the twister and HOLDRAND hold. -/
theorem exec_lcgNext_withTwisterAndHoldrand {c : CellSel} {s t : State} (hexec : exec (.lcgNext c) s = .next t)
    (w : Words) (cu : BitVec 10) (h : Word) :
    exec (.lcgNext c) (s.withTwisterAndHoldrand w cu h) = .next (t.withTwisterAndHoldrand w cu h) := by
  cases c <;>
  · rw [← next_inj hexec]
    rfl

theorem exec_lcgNext_keeps {c : CellSel} {s t : State} (hexec : exec (.lcgNext c) s = .next t) :
    t.words = s.words ∧ t.cursor = s.cursor ∧ t.holdrand = s.holdrand := by
  have hsame : exec (.lcgNext c) s = .next (t.withTwisterAndHoldrand s.words s.cursor s.holdrand) :=
    exec_lcgNext_withTwisterAndHoldrand hexec ..
  rw [next_inj (hexec.symm.trans hsame)]
  exact ⟨rfl, rfl, rfl⟩

/-- Settles O12. The values put into the registers that are not read stay beside what the command does, and with their
own values put in, the command leaves them. -/
theorem lcgAndTwisterAreIndependent : Obligations.LcgAndTwisterAreIndependent := by
  unfold Obligations.LcgAndTwisterAreIndependent
  refine ⟨fun c s t w cu h => ?_, fun i s t a b hlcg hboot h => ?_⟩
  · obtain ⟨hwords, hcursor, hholdrand⟩ := exec_lcgNext_keeps h
    refine ⟨hwords, hcursor, (exec_lcgNext_withTwisterAndHoldrand h w cu s.holdrand).trans ?_⟩
    rw [← hholdrand]
    rfl
  · obtain ⟨hcell0, hcell1, hholdrand⟩ := exec_cells hlcg hboot h
    refine ⟨hcell0, hcell1, (exec_withCells hlcg hboot h a b s.holdrand).trans ?_⟩
    rw [← hholdrand]
    rfl

/-- LCG_NEXT and the other commands are two cases. -/
theorem exec_with_holdrand {i : Instr} {s t : State} (hboot : i ≠ .bootstrap) (hexec : exec i s = .next t) (h : Word) :
    exec i { s with holdrand := h } = .next { t with holdrand := h } := by
  by_cases hlcg : ∃ c, i = .lcgNext c
  · obtain ⟨c, rfl⟩ := hlcg
    obtain ⟨hwords, hcursor, -⟩ := exec_lcgNext_keeps hexec
    refine (exec_lcgNext_withTwisterAndHoldrand hexec s.words s.cursor h).trans ?_
    rw [← hwords, ← hcursor]
    rfl
  · rw [not_exists] at hlcg
    obtain ⟨hcell0, hcell1, -⟩ := exec_cells hlcg hboot hexec
    refine (exec_withCells hlcg hboot hexec s.lcgCell0 s.lcgCell1 h).trans ?_
    rw [← hcell0, ← hcell1]
    rfl

/-- Settles O52. The steps that change HOLDRAND are among the five ways of a step, the other commands do the same beside
any value of it, and BOOTSTRAP overwrites it. -/
theorem holdrandIsTouchedOnlyByBootstrap : Obligations.HoldrandIsTouchedOnlyByBootstrap := by
  unfold Obligations.HoldrandIsTouchedOnlyByBootstrap
  refine ⟨fun s t hstep hne => ?_, fun i s t h hboot hexec => exec_with_holdrand hboot hexec h,
    fun s h => ⟨_, rfl, rfl⟩⟩
  obtain ⟨i, hready, hexec⟩ | ⟨_, -, rfl⟩ | ⟨slot, v, rest, hops, rfl⟩ | ⟨rest, hops, -⟩ | ⟨_, _, rfl⟩ :=
    step_block_cases hstep
  case inl =>
    obtain ⟨-, -, -, -, -, -, hboot, -⟩ := exec_keeps hexec
    rw [hready, hboot hne]
    exact .inl rfl
  case inr.inr.inl =>
    have hslot : slot = 7#4 := by
      rw [← portReg_eq_holdrand_iff]
      by_contra hreg
      exact hne (writeReg_holdrand_of_ne hreg ..)
    exact .inr ⟨_, rest, hops, .inr ⟨v, by rw [hslot]⟩⟩
  case inr.inr.inr.inl => exact .inr ⟨_, rest, hops, .inl rfl⟩
  all_goals exact absurd rfl hne

/-! ### The ARG registers (R25) -/

theorem regenerate_args (s : State) : s.regenerate.arg0 = s.arg0 ∧ s.regenerate.arg1 = s.arg1 := by
  unfold State.regenerate
  split <;> exact ⟨rfl, rfl⟩

/-- Settles O54, by the updates that each command makes. -/
theorem argsAreWrittenOnlyByLcgNext : Obligations.ArgsAreWrittenOnlyByLcgNext := by
  unfold Obligations.ArgsAreWrittenOnlyByLcgNext
  intro i s t h
  cases i with
  | lcgNext c =>
    cases c with
    | arg0 =>
      rw [← next_inj h]
      exact ⟨rfl, fun _ => rfl⟩
    | lcgCell0 | lcgCell1 | reserved =>
      rw [← next_inj h]
      exact ⟨rfl, fun hne => absurd rfl hne⟩
  | mtNext =>
    obtain ⟨harg0, harg1⟩ := regenerate_args s
    rw [← next_inj h]
    exact ⟨harg1, fun hne => absurd harg0 hne⟩
  | mtSeedScalar | bootstrap | mtCursorRead =>
    rw [← next_inj h]
    exact ⟨rfl, fun hne => absurd rfl hne⟩
  | mtSeedArray | mtWordRead | mtWordWrite | mtCursorWrite | keyWrite | keyRead =>
    simp only [exec, execMtSeedArray, execMtWordRead, execMtWordWrite, execMtCursorWrite, execKeyWrite,
      execKeyRead] at h
    split at h <;>
    · rw [← next_inj h]
      exact ⟨rfl, fun hne => absurd rfl hne⟩

end Sys2Proof.Machine

namespace Sys2Proof.Machine

/-! ## 10_state.md R36, 70_reset_and_hazards.md R182 to R184: states that the spec does not tell apart -/

/-! ### What a write leaves defined or not -/

theorem wordDefined_setWord_of_ne {i k : Nat} (hne : k % 624 ≠ i % 624) (v : Word) (s : State) :
    (s.setWord i v).wordDefined k = s.wordDefined k :=
  Vector.getElem_set_ne (Nat.mod_lt i (by decide)) (Nat.mod_lt k (by decide)) hne.symm

theorem keyDefined_setKey_of_ne {j k : Nat} (hne : k ≠ j) (v : Word) (s : State) :
    (s.setKey j v).keyDefined k = s.keyDefined k := by
  simp [State.keyDefined, List.getElem?_set_ne hne.symm]

theorem operand_congr {s t : State} (harg : s.arg0 = t.arg0) : s.operand = t.operand := congrArg BitVec.toNat harg

/-! ### What is defined is the same in both states -/

section
variable {s t : State} (h : Agree s t)
include h

theorem Agree.busy : s.busy = t.busy := congrArg Option.isSome h.pending

theorem Agree.wordDefined_eq (i : Nat) : s.wordDefined i = t.wordDefined i := by
  rw [State.wordDefined, State.wordDefined, h.ghost]

theorem Agree.wordAt_eq {i : Nat} (hdef : s.wordDefined i = true) : wordAt s.words i = wordAt t.words i := by
  rw [← wordAt_mod s.words, ← wordAt_mod t.words]
  apply h.words _ (Nat.mod_lt i (by decide))
  simpa [State.wordDefined] using hdef

theorem Agree.keyDefined_eq (j : Nat) : s.keyDefined j = t.keyDefined j := by
  rw [State.keyDefined, State.keyDefined, h.ghost]

theorem Agree.keyPrefixDefined_eq (L : Nat) : s.keyPrefixDefined L = t.keyPrefixDefined L := by
  rw [State.keyPrefixDefined, State.keyPrefixDefined, funext h.keyDefined_eq]

theorem Agree.words_eq (hdef : s.allWordsDefined = true) : s.words = t.words := by
  refine words_ext fun k hk => h.wordAt_eq ?_
  rw [State.allWordsDefined, List.all_eq_true] at hdef
  exact hdef _ (Vector.mem_toList_iff.mpr (Vector.getElem_mem _))

theorem Agree.regDefined_eq (r : PortReg) : s.regDefined r = t.regDefined r := by
  unfold State.regDefined
  rw [h.ghost]

theorem Agree.statusWord_eq : s.statusWord = t.statusWord := by
  rw [State.statusWord, State.statusWord, h.busy, h.seeded, h.err]

theorem Agree.regValue_eq {r : PortReg} (hdef : s.regDefined r = true) : s.regValue r = t.regValue r := by
  cases r with
  | cmd | reserved => rfl
  | status => exact h.statusWord_eq
  | arg0 => exact h.arg0 hdef
  | arg1 => exact h.arg1 hdef
  | result => exact h.result hdef
  | lcgCell0 => exact h.lcgCell0 hdef
  | lcgCell1 => exact h.lcgCell1 hdef
  | holdrand => exact h.holdrand hdef

theorem Agree.cellDefined_eq (c : CellSel) : s.cellDefined c = t.cellDefined c := by
  unfold State.cellDefined
  rw [h.ghost]

theorem Agree.cell_eq {c : CellSel} (hdef : s.cellDefined c = true) : s.cell c = t.cell c := by
  cases c with
  | reserved => rfl
  | arg0 => exact h.arg0 hdef
  | lcgCell0 => exact h.lcgCell0 hdef
  | lcgCell1 => exact h.lcgCell1 hdef

/-! ### Each update keeps the agreement, when it writes the same to both states -/

theorem Agree.noteRead (b : Bool) : Agree (s.noteRead b) (t.noteRead b) :=
  { h with ghost := congrArg (fun g => { g with unspecifiedRead := g.unspecifiedRead || !b }) h.ghost }

theorem Agree.setArg0 (v : Word) : Agree (s.setArg0 v) (t.setArg0 v) :=
  { h with ghost := congrArg (fun g => { g with arg0 := true }) h.ghost, arg0 := fun _ => rfl }

theorem Agree.setArg1 (v : Word) : Agree (s.setArg1 v) (t.setArg1 v) :=
  { h with ghost := congrArg (fun g => { g with arg1 := true }) h.ghost, arg1 := fun _ => rfl }

theorem Agree.setResult (v : Word) : Agree (s.setResult v) (t.setResult v) :=
  { h with ghost := congrArg (fun g => { g with result := true }) h.ghost, result := fun _ => rfl }

theorem Agree.setLcgCell0 (v : Word) : Agree (s.setLcgCell0 v) (t.setLcgCell0 v) :=
  { h with ghost := congrArg (fun g => { g with lcgCell0 := true }) h.ghost, lcgCell0 := fun _ => rfl }

theorem Agree.setLcgCell1 (v : Word) : Agree (s.setLcgCell1 v) (t.setLcgCell1 v) :=
  { h with ghost := congrArg (fun g => { g with lcgCell1 := true }) h.ghost, lcgCell1 := fun _ => rfl }

theorem Agree.setHoldrand (v : Word) : Agree (s.setHoldrand v) (t.setHoldrand v) :=
  { h with ghost := congrArg (fun g => { g with holdrand := true }) h.ghost, holdrand := fun _ => rfl }

theorem Agree.setWord (i : Nat) (v : Word) : Agree (s.setWord i v) (t.setWord i v) := by
  refine { h with
    ghost := congrArg (fun g => { g with words := g.words.set (i % 624) true (Nat.mod_lt i (by decide)) }) h.ghost
    words := fun k hk hdef => ?_ }
  rw [State.setWord_words, State.setWord_words, wordAt_setWordAt, wordAt_setWordAt]
  split
  · rfl
  next hne =>
    rw [wordDefined_setWord_of_ne hne] at hdef
    exact h.wordAt_eq hdef

theorem Agree.setKey {j : Nat} (hj : j < s.keyMax) (v : Word) : Agree (s.setKey j v) (t.setKey j v) := by
  refine { h with
    ghost := congrArg (fun g => { g with key := g.key.set j true }) h.ghost
    keyMax := by simpa using h.keyMax
    key := fun k hdef => ?_ }
  have hj' : j < t.keyMax := h.keyMax ▸ hj
  rw [State.setKey_key, State.setKey_key, keyAt_set _ _ _ _ hj, keyAt_set _ _ _ _ hj']
  split
  · rfl
  next hne =>
    rw [keyDefined_setKey_of_ne hne] at hdef
    exact h.key k hdef

theorem Agree.loadTwister (w : Words) (c : BitVec 10) : Agree (s.loadTwister w c) (t.loadTwister w c) :=
  { h with
    ghost := congrArg (fun g => { g with words := Vector.replicate 624 true }) h.ghost
    cursor := rfl
    words := fun _ _ _ => rfl }

theorem Agree.setCursor (c : BitVec 10) : Agree (s.setCursor c) (t.setCursor c) := { h with cursor := rfl }
theorem Agree.setSeeded : Agree s.setSeeded t.setSeeded := { h with seeded := rfl }
theorem Agree.complete : Agree s.complete t.complete := { h with pending := rfl, err := rfl }
theorem Agree.raiseError (c : ErrCode) : Agree (s.raiseError c) (t.raiseError c) :=
  { h with pending := rfl, err := rfl }

theorem Agree.setCell (c : CellSel) (v : Word) : Agree (s.setCell c v) (t.setCell c v) := by
  cases c with
  | arg0 => exact h.setArg0 v
  | lcgCell0 => exact h.setLcgCell0 v
  | lcgCell1 => exact h.setLcgCell1 v
  | reserved => exact h

theorem Agree.latchCommand (v : Word) : Agree (s.latchCommand v) (t.latchCommand v) :=
  { h with
    pending := rfl
    delay := congrArg (fun host => host.latencies.headD 0) h.host
    host := congrArg (fun host => { host with latencies := host.latencies.tail }) h.host }

theorem Agree.writeReg (r : PortReg) (v : Word) : Agree (s.writeReg r v) (t.writeReg r v) := by
  cases r with
  | status | result | reserved => exact h
  | cmd => exact h.latchCommand v
  | arg0 => exact h.setArg0 v
  | arg1 => exact h.setArg1 v
  | lcgCell0 => exact h.setLcgCell0 v
  | lcgCell1 => exact h.setLcgCell1 v
  | holdrand => exact h.setHoldrand v

theorem Agree.observe (v : Word) : Agree (s.observe v) (t.observe v) :=
  { h with host := congrArg (fun host => { host with observed := v :: host.observed }) h.host }

theorem Agree.pushOp (op : HostOp) : Agree (s.pushOp op) (t.pushOp op) :=
  { h with host := congrArg (fun host => { host with ops := op :: host.ops }) h.host }

theorem Agree.dropOp : Agree s.dropOp t.dropOp :=
  { h with host := congrArg (fun host => { host with ops := host.ops.tail }) h.host }

theorem Agree.passTurn : Agree s.passTurn t.passTurn := { h with delay := congrArg (· - 1) h.delay }

/-- After a reset the two states are one: it gives all data the values that the model chose (log 1, log 6). -/
theorem Agree.resetBlock_eq : s.resetBlock = t.resetBlock := by
  rw [State.resetBlock, State.resetBlock, h.keyMax, h.host, h.ghost]

end

theorem Agree.refl (s : State) : Agree s s := by
  constructor <;> intros <;> rfl

/-! ### Outcomes that the spec does not tell apart -/

/-- If the first outcome is a next state with no unspecified value read so far, the second is one that agrees. -/
def AgreeingOutcomes (o₁ o₂ : Out) : Prop :=
  ∀ t₁, o₁ = .next t₁ → t₁.Specified → ∃ t₂, o₂ = .next t₂ ∧ Agree t₁ t₂

theorem agreeing_next {s t : State} (h : s.Specified → Agree s t) : AgreeingOutcomes (.next s) (.next t) := by
  intro t₁ hnext hspec
  obtain rfl := next_inj hnext
  exact ⟨t, rfl, h hspec⟩

theorem agreeing_fault (r : Fault) (o : Out) : AgreeingOutcomes (.fault r) o :=
  fun _ hnext => nomatch hnext

/-- A check that comes out the same in both states. -/
theorem agreeing_check {b b' : Bool} {o₁ o₂ p₁ p₂ : Out} (hb : b = b') (hyes : b = true → AgreeingOutcomes o₁ o₂)
    (hno : AgreeingOutcomes p₁ p₂) : AgreeingOutcomes (if b then o₁ else p₁) (if b' then o₂ else p₂) := by
  subst hb
  split
  next hok => exact hyes hok
  next => exact hno

theorem specified_noteRead {s : State} {b : Bool} : (s.noteRead b).Specified ↔ s.Specified ∧ b = true := by
  simp [State.Specified]

/-- The mark stays, so each read so far was of defined values. -/
theorem defined_of_specified {s : State} {b : Bool} (h : (s.noteRead b).Specified) : b = true :=
  (specified_noteRead.mp h).2

theorem both_defined_of_specified {s : State} {a b : Bool} (h : (s.noteRead (a && b)).Specified) :
    a = true ∧ b = true :=
  Bool.and_eq_true_iff.mp (defined_of_specified h)

/-! ### The commands -/

@[simp] theorem State.setCell_unspecifiedRead (c : CellSel) (v : Word) (s : State) :
    (s.setCell c v).ghost.unspecifiedRead = s.ghost.unspecifiedRead := by
  cases c <;> rfl

/-- The commands that compare ARG0 with a bound before anything else (41_mt_seeding.md R93, 44_state_access.md R140). -/
def ChecksArg0 : Instr → Prop
  | .mtSeedArray | .mtWordRead | .mtWordWrite | .mtCursorWrite | .keyWrite | .keyRead => True
  | .lcgNext _ | .mtSeedScalar | .mtNext | .bootstrap | .mtCursorRead => False

/-- Whatever the check decides, ARG0 has been read. -/
theorem arg0_defined_of_specified {i : Instr} {s t : State} (hi : ChecksArg0 i) (hexec : exec i s = .next t)
    (hspec : t.Specified) : s.ghost.arg0 = true := by
  cases i with
  | lcgNext | mtSeedScalar | mtNext | bootstrap | mtCursorRead => cases hi
  | mtCursorWrite =>
    simp only [exec, execMtCursorWrite] at hexec
    split at hexec <;>
    · rw [← next_inj hexec] at hspec
      exact defined_of_specified hspec
  | mtSeedArray | mtWordRead | mtWordWrite | keyWrite | keyRead =>
    simp only [exec, execMtSeedArray, execMtWordRead, execMtWordWrite, execKeyWrite, execKeyRead] at hexec
    split at hexec
    · rw [← next_inj hexec] at hspec
      exact (both_defined_of_specified hspec).1
    · rw [← next_inj hexec] at hspec
      exact defined_of_specified hspec

section
variable {s t : State} (h : Agree s t)
include h

theorem Agree.lcgNext (c : CellSel) : AgreeingOutcomes (execLcgNext c s) (execLcgNext c t) := by
  by_cases hc : c = .reserved
  · subst hc
    exact agreeing_next fun _ => h.raiseError .illegal
  · rw [execLcgNext_of_ne hc, execLcgNext_of_ne hc]
    refine agreeing_next fun hspec => ?_
    have hdef : s.cellDefined c = true := by
      apply defined_of_specified (s := s)
      simpa [State.Specified] using hspec
    rw [← h.cell_eq hdef, ← h.cellDefined_eq]
    exact (((h.noteRead _).setCell c _).setResult _).complete

theorem Agree.mtSeedScalar : AgreeingOutcomes (execMtSeedScalar s) (execMtSeedScalar t) := by
  refine agreeing_next fun hspec => ?_
  rw [← h.arg0 (defined_of_specified hspec), ← h.ghost, seedScalar_congr s.arg0 t.words s.words]
  exact ((h.noteRead _).loadTwister _ _).setSeeded.complete

theorem Agree.bootstrap : AgreeingOutcomes (execBootstrap s) (execBootstrap t) := by
  refine agreeing_next fun hspec => ?_
  rw [← h.arg0 (defined_of_specified hspec), ← h.ghost, seedScalar_congr 5489#32 t.words s.words]
  exact (((((h.noteRead _).setLcgCell0 _).setLcgCell1 _).loadTwister _ _).setHoldrand _).setSeeded.complete

theorem Agree.mtCursorRead : AgreeingOutcomes (execMtCursorRead s) (execMtCursorRead t) := by
  refine agreeing_next fun _ => ?_
  rw [← h.cursor]
  exact (h.setResult _).complete

theorem Agree.regenerate (hspec : s.regenerate.Specified) : Agree s.regenerate t.regenerate := by
  by_cases hc : 624 ≤ s.cursor.toNat
  · rw [regenerate_of_ge hc] at hspec ⊢
    rw [regenerate_of_ge (h.cursor ▸ hc), ← h.words_eq (defined_of_specified hspec)]
    have hdef : s.allWordsDefined = t.allWordsDefined := by rw [State.allWordsDefined, State.allWordsDefined, h.ghost]
    rw [← hdef]
    exact (h.noteRead _).loadTwister _ _
  · rw [regenerate_of_lt (by omega), regenerate_of_lt (by rw [← h.cursor]; omega)]
    exact h

theorem Agree.draw (hspec : s.draw.Specified) : Agree s.draw t.draw := by
  rw [State.draw, State.draw, ← h.cursor, ← h.wordDefined_eq, ← h.wordAt_eq (defined_of_specified hspec)]
  exact ((h.noteRead _).setResult _).setCursor _

theorem Agree.mtNext : AgreeingOutcomes (execMtNext s) (execMtNext t) := by
  refine agreeing_next fun hspec => ?_
  have hregenerate : s.regenerate.Specified := (specified_noteRead.mp hspec).1
  exact ((h.regenerate hregenerate).draw hspec).complete

/-! The commands that check ARG0 raise RANGE in both states or in neither. -/

theorem Agree.range :
    AgreeingOutcomes (.next ((s.noteRead s.ghost.arg0).raiseError .range))
      (.next ((t.noteRead t.ghost.arg0).raiseError .range)) := by
  rw [← h.ghost]
  exact agreeing_next fun _ => (h.noteRead _).raiseError .range

section
variable (harg : s.arg0 = t.arg0)
include harg

omit h in
theorem wordIndexOk_congr : s.wordIndexOk = t.wordIndexOk := by
  rw [State.wordIndexOk, State.wordIndexOk, operand_congr harg]

omit h in
theorem cursorOk_congr : s.cursorOk = t.cursorOk := by
  rw [State.cursorOk, State.cursorOk, operand_congr harg]

theorem Agree.keyIndexOk_eq : s.keyIndexOk = t.keyIndexOk := by
  rw [State.keyIndexOk, State.keyIndexOk, operand_congr harg, h.keyMax]

theorem Agree.keyLengthOk_eq : s.keyLengthOk = t.keyLengthOk := by
  rw [State.keyLengthOk, State.keyLengthOk, operand_congr harg, h.keyMax]

theorem Agree.mtSeedArray : AgreeingOutcomes (execMtSeedArray s) (execMtSeedArray t) := by
  refine agreeing_check (h.keyLengthOk_eq harg) (fun _ => agreeing_next fun hspec => ?_) h.range
  obtain ⟨-, hdef⟩ := both_defined_of_specified hspec
  have hkey : ∀ j, j < s.operand → keyAt s.key j = keyAt t.key j := fun j hj =>
    h.key j (List.all_eq_true.mp hdef j (List.mem_range.mpr hj))
  rw [← operand_congr harg, ← h.ghost, ← h.keyPrefixDefined_eq, seedFromKey_congr hkey s.words t.words]
  exact ((h.noteRead _).loadTwister _ _).setSeeded.complete

theorem Agree.mtWordRead : AgreeingOutcomes (execMtWordRead s) (execMtWordRead t) := by
  refine agreeing_check (wordIndexOk_congr harg) (fun _ => agreeing_next fun hspec => ?_) h.range
  obtain ⟨-, hdef⟩ := both_defined_of_specified hspec
  rw [← operand_congr harg, ← h.ghost, ← h.wordDefined_eq, ← h.wordAt_eq hdef]
  exact ((h.noteRead _).setResult _).complete

theorem Agree.mtWordWrite : AgreeingOutcomes (execMtWordWrite s) (execMtWordWrite t) := by
  refine agreeing_check (wordIndexOk_congr harg) (fun _ => agreeing_next fun hspec => ?_) h.range
  obtain ⟨-, hdef⟩ := both_defined_of_specified hspec
  rw [← operand_congr harg, ← h.ghost, ← h.arg1 hdef]
  exact ((h.noteRead _).setWord _ _).complete

theorem Agree.mtCursorWrite : AgreeingOutcomes (execMtCursorWrite s) (execMtCursorWrite t) := by
  refine agreeing_check (cursorOk_congr harg) (fun _ => agreeing_next fun _ => ?_) h.range
  rw [← harg, ← h.ghost]
  exact ((h.noteRead _).setCursor _).setSeeded.complete

theorem Agree.keyWrite : AgreeingOutcomes (execKeyWrite s) (execKeyWrite t) := by
  refine agreeing_check (h.keyIndexOk_eq harg) (fun hok => agreeing_next fun hspec => ?_) h.range
  obtain ⟨-, hdef⟩ := both_defined_of_specified hspec
  rw [← operand_congr harg, ← h.ghost, ← h.arg1 hdef]
  exact ((h.noteRead _).setKey ((keyIndexOk_iff s).mp hok) _).complete

theorem Agree.keyRead : AgreeingOutcomes (execKeyRead s) (execKeyRead t) := by
  refine agreeing_check (h.keyIndexOk_eq harg) (fun _ => agreeing_next fun hspec => ?_) h.range
  obtain ⟨-, hdef⟩ := both_defined_of_specified hspec
  rw [← operand_congr harg, ← h.ghost, ← h.keyDefined_eq, ← h.key _ hdef]
  exact ((h.noteRead _).setResult _).complete

end

/-- Every command takes agreeing states to agreeing outcomes. -/
theorem Agree.exec (i : Instr) : AgreeingOutcomes (exec i s) (exec i t) := by
  intro t₁ hexec hspec
  have harg : ChecksArg0 i → s.arg0 = t.arg0 := fun hi => h.arg0 (arg0_defined_of_specified hi hexec hspec)
  revert t₁
  cases i with
  | lcgNext c => exact h.lcgNext c
  | mtSeedScalar => exact h.mtSeedScalar
  | mtNext => exact h.mtNext
  | bootstrap => exact h.bootstrap
  | mtCursorRead => exact h.mtCursorRead
  | mtSeedArray => exact h.mtSeedArray (harg trivial)
  | mtWordRead => exact h.mtWordRead (harg trivial)
  | mtWordWrite => exact h.mtWordWrite (harg trivial)
  | mtCursorWrite => exact h.mtCursorWrite (harg trivial)
  | keyWrite => exact h.keyWrite (harg trivial)
  | keyRead => exact h.keyRead (harg trivial)

/-! ### The host's turn, and a step -/

theorem Agree.pollOnce : Agree (pollOnce s) (pollOnce t) := by
  unfold Machine.pollOnce
  rw [← h.busy, ← h.statusWord_eq]
  split
  · exact (h.observe _).pushOp .poll
  · exact h.observe _

theorem Agree.hostAct (op : HostOp) : AgreeingOutcomes (hostAct op s) (hostAct op t) := by
  cases op with
  | write slot v =>
    refine agreeing_check h.busy (fun _ => agreeing_fault _ _) (agreeing_next fun _ => h.writeReg _ v)
  | read slot =>
    refine agreeing_check (by rw [h.busy]) (fun _ => agreeing_fault _ _) (agreeing_next fun hspec => ?_)
    rw [← h.regDefined_eq, ← h.regValue_eq (defined_of_specified hspec)]
    exact (h.noteRead _).observe _
  | poll => exact agreeing_next fun _ => h.pollOnce
  | reset =>
    refine agreeing_next fun _ => ?_
    rw [h.resetBlock_eq]
    exact Agree.refl _

theorem Agree.hostTurn : AgreeingOutcomes (hostTurn s) (hostTurn t) := by
  cases hops : s.host.ops with
  | nil =>
    rw [hostTurn_of_nil hops, hostTurn_of_nil (h.host ▸ hops)]
    exact agreeing_next fun _ => h
  | cons op rest =>
    rw [hostTurn_of_cons hops, hostTurn_of_cons (h.host ▸ hops)]
    exact h.dropOp.hostAct op

theorem Agree.readyCommand_eq : s.readyCommand = t.readyCommand := by
  rw [State.readyCommand, State.readyCommand, h.delay, h.pending]

theorem Agree.step : AgreeingOutcomes (step s) (step t) := by
  cases hready : s.readyCommand with
  | none =>
    rw [step_of_not_ready hready, step_of_not_ready (h.readyCommand_eq ▸ hready)]
    exact h.passTurn.hostTurn
  | some w =>
    obtain ⟨hd, hp⟩ := readyCommand_eq_some.mp hready
    obtain ⟨hd', hp'⟩ := readyCommand_eq_some.mp (h.readyCommand_eq ▸ hready)
    cases hdec : decode w with
    | ok i =>
      rw [step_of_decode_ok hp hd hdec, step_of_decode_ok hp' hd' hdec]
      exact h.exec i
    | error e =>
      rw [step_of_decode_error hp hd hdec, step_of_decode_error hp' hd' hdec]
      exact agreeing_next fun _ => h.raiseError .illegal

end

/-- Settles O56. A step makes updates with values that are defined, so that they are the same in both states, as long
as no unspecified value has been read. -/
theorem specifiedRunsIgnoreUnspecifiedData : Obligations.SpecifiedRunsIgnoreUnspecifiedData := by
  unfold Obligations.SpecifiedRunsIgnoreUnspecifiedData
  exact fun s₁ s₂ t₁ h => h.step t₁

end Sys2Proof.Machine
